-- ==== Sys2Proof/Word.lean ====
section
/-!
DEFINITION. Word.lean: the byte of the deck link and junction lines, and the fixed-length tables in which the
block keeps "one record for each hatch, cleat, channel, station". A table carries its own length, so a record of a
hatch that exists is always there and no state has a table of another length.
-/

namespace Sys2Proof

/-- One byte of a deck link frame or of a junction frame (R189). -/
abbrev Byte := BitVec 8

/-- A table of exactly `n` records, numbered from 0. -/
structure Tbl (n : Nat) (α : Type) where
  items : List α
  len : items.length = n
  deriving DecidableEq, Repr

namespace Tbl
variable {n : Nat} {α β : Type}

/-- Every record of the table holds `x`. -/
def fill (n : Nat) (x : α) : Tbl n α := ⟨List.replicate n x, List.length_replicate⟩

/-- The table whose record `i` is `f i`. -/
def build (f : Fin n → α) : Tbl n α := ⟨List.ofFn f, List.length_ofFn⟩

/-- Record `i`. -/
def get (t : Tbl n α) (i : Fin n) : α := t.items[i.val]'(by rw [t.len]; exact i.isLt)

/-- The table with record `i` replaced. -/
def set (t : Tbl n α) (i : Fin n) (x : α) : Tbl n α := ⟨t.items.set i.val x, by rw [List.length_set, t.len]⟩

/-- The table with record `i` changed by `f`. -/
def upd (t : Tbl n α) (i : Fin n) (f : α → α) : Tbl n α := t.set i (f (t.get i))

/-- Every record changed by `f`. -/
def map (t : Tbl n α) (f : α → β) : Tbl n β := ⟨t.items.map f, by rw [List.length_map, t.len]⟩

theorem ext_get {t u : Tbl n α} (h : ∀ i, t.get i = u.get i) : t = u := by
  obtain ⟨l, hl⟩ := t
  obtain ⟨m, hm⟩ := u
  congr
  subst hl
  refine List.ext_get hm.symm fun k h1 h2 => ?_
  exact h ⟨k, h1⟩

@[simp] theorem get_fill (x : α) (i : Fin n) : (fill n x).get i = x := by
  simp [fill, get]

@[simp] theorem get_build (f : Fin n → α) (i : Fin n) : (build f).get i = f i := by
  simp [build, get]

@[simp] theorem get_map (t : Tbl n α) (f : α → β) (i : Fin n) : (t.map f).get i = f (t.get i) := by
  simp [map, get]

@[simp] theorem get_set_self (t : Tbl n α) (i : Fin n) (x : α) : (t.set i x).get i = x := by
  simp [set, get]

theorem get_set (t : Tbl n α) (i j : Fin n) (x : α) : (t.set i x).get j = if i = j then x else t.get j := by
  by_cases h : i = j
  · subst h; simp
  · have : i.val ≠ j.val := fun e => h (Fin.ext e)
    simp [set, get, this, h]

@[simp] theorem get_set_ne (t : Tbl n α) {i j : Fin n} (x : α) (h : i ≠ j) : (t.set i x).get j = t.get j := by
  rw [get_set, if_neg h]

@[simp] theorem get_upd_self (t : Tbl n α) (i : Fin n) (f : α → α) : (t.upd i f).get i = f (t.get i) := by
  simp [upd]

@[simp] theorem get_upd_ne (t : Tbl n α) {i j : Fin n} (f : α → α) (h : i ≠ j) : (t.upd i f).get j = t.get j := by
  simp [upd, h]

@[simp] theorem set_get_self (t : Tbl n α) (i : Fin n) : t.set i (t.get i) = t :=
  ext_get fun j => by by_cases h : i = j <;> simp [h]

end Tbl

end Sys2Proof
end

