-- ==== Sys2Proof/Config.lean ====
section
/-!
DEFINITION. Config.lean: the shape of the configuration image (R177).
The ranges, the defaults and the named readings of the items stand in Machine/Params.lean.
-/

namespace Sys2Proof

/-- The four items of a hatch (items 1 to 4 of R177), in the units and codes of R177 and R190. -/
structure HatchParams where
  /-- stow length, mm -/
  stow : Int
  /-- lead panel: 1 PORT, 2 STBD -/
  lead : Int
  /-- retired allowance -/
  allowance : Int
  /-- stop-line clearing mode: 0 MANUAL, 1 AUTO -/
  clearing : Int
  deriving DecidableEq, Repr

/-- The three layout items of a cleat position (items 5 to 7 of R177). -/
structure CleatParams where
  /-- cleat fitted: 0 no, 1 yes -/
  fitted : Int
  /-- cleat kind: 0 HYDRAULIC, 1 MANUAL -/
  kind : Int
  /-- cleat sensor fitted: 0 no, 1 yes -/
  sensor : Int
  deriving DecidableEq, Repr

/-- The three items of a step (items 8 to 10 of R177). -/
structure StepParams where
  /-- step N, L/min -/
  n : Int
  /-- step M, L/min -/
  m : Int
  /-- step timeout, 0.1 s -/
  timeout : Int
  deriving DecidableEq, Repr

/-- A configuration image: one value for every item and index of R177, 949 values in all. The values are the signed
numbers the deck link and the external memory carry, so that an image read with a value outside its range can be
written down (R179). -/
structure Image where
  hatch : Tbl 9 HatchParams
  cleat : Tbl 288 CleatParams
  step : Tbl 9 StepParams
  pump : Tbl 3 Int
  /-- items 12 to 30 of R177, in their order -/
  single : Tbl 19 Int
  deriving DecidableEq, Repr

end Sys2Proof
end

