-- ==== Sys2Proof/Syntax.lean ====
section
/-!
DEFINITION. Syntax.lean: the commands of the block, one constructor for each row of spec/opcode_table.json, and the
names their operands use. A request command (MOVE, LOOK_CLEAT, ...) is the TAKING of the frame at the head of the
receive FIFO (R164): its operands are the bytes of that frame (R190) and stand in State; where a rule reads a key
switch at the taking, the command carries the level that is read.
-/

namespace Sys2Proof

/-- A hatch: 0 stands for H1 and 8 for H9. -/
abbrev Hatch := Fin 9

/-- A cleat id, 0 to 287 (R1). -/
abbrev CleatId := Fin 288

/-- A pump set: 0 stands for P1 and 2 for P3 (R81). -/
abbrev PumpId := Fin 3

/-- A station number, 0 to 15 (R160). -/
abbrev StationId := Fin 16

/-- The two panels of a hatch. -/
inductive Panel where
  | port
  | stbd
  deriving DecidableEq, Repr

/-- The seven valve channels of a hatch, in the order of R109. -/
inductive Channel where
  | rollPort
  | rollStbd
  | jackPort
  | jackStbd
  | cleatPort
  | cleatStbd
  | cleatCross
  deriving DecidableEq, Repr

/-- The two directions of a channel: A is OUT, UP or ENGAGE; B is IN, DOWN or RELEASE (R109). -/
inductive Dir where
  | a
  | b
  deriving DecidableEq, Repr

/-- What puts the part into reset (R187). -/
inductive ResetSource where
  /-- the supply falls below its working level; `vbak` says whether VBAK keeps the retention memory (R185) -/
  | supplyFell (vbak : Bool)
  /-- RESET_N is held low for this many microseconds -/
  | resetN (micros : Nat)
  deriving DecidableEq, Repr

/-- A frame seen on the deck link (R161): its identifier, whether the identifier is an extended one, whether it is a
remote frame, and its data bytes. -/
structure CanFrame where
  extended : Bool
  remote : Bool
  ident : Nat
  data : List Byte
  deriving DecidableEq, Repr

/-- The four 12-bit codes of one transfer of the analog port (R140). -/
structure AnalogCodes where
  pressure : BitVec 12
  temperature : BitVec 12
  heel : BitVec 12
  wind : BitVec 12
  deriving DecidableEq, Repr

/-- The commands of the block. -/
inductive Instr where
  /-- RESET (R187) -/
  | reset (source : ResetSource)
  /-- START_UP (R188) -/
  | startUp
  /-- IMAGE_READ_END (R179): the values read and whether the check word agrees with them -/
  | imageReadEnd (image : Image) (checkAgrees : Bool)
  /-- IMAGE_READ_TIMEOUT (R179) -/
  | imageReadTimeout
  /-- DECK_FRAME_ARRIVAL (R161) -/
  | deckFrameArrival (frame : CanFrame)
  /-- SILENCE_TIMER_EXPIRY (R162) -/
  | silenceTimerExpiry (station : StationId)
  /-- UNKNOWN_REQUEST (R164) -/
  | unknownRequest
  /-- PRESENCE (R168) -/
  | presence
  /-- LOOK_CLEAT (R20) -/
  | lookCleat
  /-- LOOK_HOLD (R43) -/
  | lookHold
  /-- LOOK_HATCH (R170) -/
  | lookHatch
  /-- LOOK_SUPPLY (R108) -/
  | lookSupply
  /-- LOOK_SENSING (R144) -/
  | lookSensing
  /-- LOOK_STATION (R171) -/
  | lookStation
  /-- LOOK_PARAM (R184) -/
  | lookParam
  /-- FIND_CLEAT (R21) -/
  | findCleat
  /-- FIND_HOLD (R44) -/
  | findHold
  /-- MOVE (R73) -/
  | move
  /-- HALT (R75) -/
  | halt
  /-- ACK_FAULT (R77) -/
  | ackFault
  /-- PLACE_HOLD (R34) -/
  | placeHold
  /-- LIFT_HOLD (R39): the level of KEY_OVERRIDE at the taking -/
  | liftHold (keyOverrideClosed : Bool)
  /-- CONFIRM_CLEAT (R9) -/
  | confirmCleat
  /-- SET_SERVICE (R12) -/
  | setService
  /-- SQUALL (R147) -/
  | squall
  /-- CANCEL_SQUALL (R152) -/
  | cancelSquall
  /-- ACK_TRIP (R127) -/
  | ackTrip
  /-- ACK_PUMP naming a pump set (R85) -/
  | ackPump
  /-- ACK_PUMP naming 0 (R85) -/
  | ackPumpFlags
  /-- JOG that is no renewal (R121): the level of KEY_SERVICE at the taking -/
  | jog (keyServiceClosed : Bool)
  /-- JOG that is a renewal (R123): the level of KEY_SERVICE at the taking -/
  | jogRenewal (keyServiceClosed : Bool)
  /-- SET_PARAM (R181): the level of KEY_SERVICE at the taking -/
  | setParam (keyServiceClosed : Bool)
  /-- WRITE_STORED (R182) -/
  | writeStored
  /-- WRITE_UNSTORED (R183): the external memory reports a failure -/
  | writeUnstored
  /-- WRITE_TIMEOUT (R183): the external memory does not confirm within 20 ms -/
  | writeTimeout
  /-- RETENTION_WRITE_END (R185) -/
  | retentionWriteEnd
  /-- FRAME_SENT (R166) -/
  | frameSent
  /-- BROADCAST_CYCLE (R172) -/
  | broadcastCycle
  /-- SCAN (R131): the 50 ms scan of this hatch's line ends and the next begins -/
  | scan (hatch : Hatch)
  /-- JUNCTION_FRAME (R135): the bytes received on this hatch's line -/
  | junctionFrame (hatch : Hatch) (bytes : List Byte)
  /-- ANALOG_SAMPLE (R140): the codes of the transfer, or none where it did not complete or the converter reports an error -/
  | analogSample (codes : Option AnalogCodes)
  /-- STEP_TIMEOUT (R56) -/
  | stepTimeout (hatch : Hatch)
  /-- STALL (R68) -/
  | stall (hatch : Hatch) (panel : Panel)
  /-- DRIVE_UPDATE (R112) -/
  | driveUpdate (hatch : Hatch) (channel : Channel)
  /-- DEADTIME_EXPIRY (R114) -/
  | deadtimeExpiry (hatch : Hatch) (channel : Channel)
  /-- COIL_FEEDBACK_CHANGE (R109): what the feedback line reads now -/
  | coilFeedbackChange (hatch : Hatch) (channel : Channel) (sensed : Option Dir)
  /-- JOG_TIMER_EXPIRY (R123) -/
  | jogTimerExpiry
  /-- KEY_SERVICE_OPENS (R124) -/
  | keyServiceOpens
  /-- LOOP_OPENS (R125): 0 is ESTOP_LOOP, 1 to 9 the loops of H1 to H9 -/
  | loopOpens (loop : Fin 10)
  /-- LOOP_CLOSES (R128): numbered as for LOOP_OPENS -/
  | loopCloses (loop : Fin 10)
  /-- CLEARING_TIMER_EXPIRY (R128) -/
  | clearingTimerExpiry (hatch : Hatch)
  /-- RUN_FEEDBACK_CHANGE (R83): what the feedback line reads now -/
  | runFeedbackChange (pump : PumpId) (present : Bool)
  /-- FAIL_TO_START (R82) -/
  | failToStart (pump : PumpId)
  /-- FAIL_TO_STOP (R83) -/
  | failToStop (pump : PumpId)
  /-- RUN_AGE_EXPIRY (R91) -/
  | runAgeExpiry (pump : PumpId)
  /-- LOW_TIMER_EXPIRY (R91) -/
  | lowTimerExpiry
  /-- RECOVERY_TIMER_EXPIRY (R91) -/
  | recoveryTimerExpiry
  /-- IDLE_TIMER_EXPIRY (R87) -/
  | idleTimerExpiry
  /-- REDUCTION_TIMER_EXPIRY (R88) -/
  | reductionTimerExpiry
  deriving DecidableEq, Repr

end Sys2Proof
end

