-- ==== Sys2Proof/WellFormed.lean ====
section
/-!
DEFINITION. WellFormed.lean: which commands can be given at all. Almost every operand is well formed by its type; the
checks below say what a CAN bus can carry. `Machine.exec` gives every command a meaning, well formed or not.
-/

namespace Sys2Proof

/-- A CAN data or remote frame: an 11-bit standard or a 29-bit extended identifier, at most eight data bytes, and no
data in a remote frame (Chapter 8: "CAN data frames with standard 11-bit identifiers"). -/
def CanFrame.wellFormed (f : CanFrame) : Bool :=
  decide (f.ident < if f.extended then 2 ^ 29 else 2 ^ 11) && decide (f.data.length ≤ 8) && (!f.remote || f.data.isEmpty)

/-- A value of the image as the external memory and the deck link can carry it: a signed 16-bit number (R190). -/
def word16 (v : Int) : Bool := decide (-32768 ≤ v) && decide (v ≤ 32767)

/-- Every value of the image is a signed 16-bit number. -/
def Image.wellFormed (i : Image) : Bool :=
  i.hatch.items.all (fun h => word16 h.stow && word16 h.lead && word16 h.allowance && word16 h.clearing) &&
  i.cleat.items.all (fun c => word16 c.fitted && word16 c.kind && word16 c.sensor) &&
  i.step.items.all (fun t => word16 t.n && word16 t.m && word16 t.timeout) &&
  i.pump.items.all word16 && i.single.items.all word16

/-- The commands that can be given. -/
def Instr.wellFormed : Instr → Bool
  | .deckFrameArrival f => f.wellFormed
  | .imageReadEnd image _ => image.wellFormed
  | .reset _ | .startUp | .imageReadTimeout | .silenceTimerExpiry _ | .unknownRequest | .presence | .lookCleat
  | .lookHold | .lookHatch | .lookSupply | .lookSensing | .lookStation | .lookParam | .findCleat | .findHold | .move
  | .halt | .ackFault | .placeHold | .liftHold _ | .confirmCleat | .setService | .squall | .cancelSquall | .ackTrip
  | .ackPump | .ackPumpFlags | .jog _ | .jogRenewal _ | .setParam _ | .writeStored | .writeUnstored | .writeTimeout
  | .retentionWriteEnd | .frameSent | .broadcastCycle | .scan _ | .junctionFrame _ _ | .analogSample _ | .stepTimeout _
  | .stall _ _ | .driveUpdate _ _ | .deadtimeExpiry _ _ | .coilFeedbackChange _ _ _ | .jogTimerExpiry | .keyServiceOpens
  | .loopOpens _ | .loopCloses _ | .clearingTimerExpiry _ | .runFeedbackChange _ _ | .failToStart _ | .failToStop _
  | .runAgeExpiry _ | .lowTimerExpiry | .recoveryTimerExpiry | .idleTimerExpiry | .reductionTimerExpiry => true

end Sys2Proof
end

