-- ==== Sys2Proof/Decode.lean ====
section
/-!
DEFINITION. Decode.lean: the command a word spells. spec/opcode_table.json gives no row any bits: the part fetches
no instruction, and what reaches it are frames, samples and line changes. No word therefore spells a command. The
byte forms of the requests are read in Machine/Operands.lean (R190), of a junction frame in Machine/Sensing.lean (R193).
-/

namespace Sys2Proof

/-- The command that a word of the opcode table spells: none, since no row of the table has bits. -/
def decodeTableWord (_nbits _w : Nat) : Option Instr := none

end Sys2Proof
end

