-- ==== Sys2Proof/Machine/Params.lean ====
section
/-!
DEFINITION. Machine/Params.lean: the items of the configuration image: their numbers, index ranges, ranges and
defaults (R177), the constraints of R178, and a named reading of each item. Reading and writing one item by its
number, as LOOK and SET_PARAM do (R181, R184), stands at the end.
-/

namespace Sys2Proof

/-- The nine steps, in the order of the step table of R52. -/
inductive StepName where
  | release
  | lift
  | rollOut
  | park
  | unpark
  | rollIn
  | lower
  | engage
  | reclamp
  deriving DecidableEq, Repr

/-- The place of a step in the table of R52, from 0. -/
def StepName.idx : StepName → Fin 9
  | .release => 0
  | .lift => 1
  | .rollOut => 2
  | .park => 3
  | .unpark => 4
  | .rollIn => 5
  | .lower => 6
  | .engage => 7
  | .reclamp => 8

/-- N, M and timeout of each step by default (R52). -/
def StepName.defaults : StepName → StepParams
  | .release => ⟨60, 40, 200⟩
  | .lift => ⟨80, 60, 250⟩
  | .rollOut => ⟨240, 120, 1500⟩
  | .park => ⟨80, 60, 250⟩
  | .unpark => ⟨80, 60, 250⟩
  | .rollIn => ⟨240, 120, 1500⟩
  | .lower => ⟨80, 60, 250⟩
  | .engage => ⟨60, 40, 200⟩
  | .reclamp => ⟨30, 20, 100⟩

/-- The step with a given place in the table of R52. -/
def StepName.all : List StepName := [.release, .lift, .rollOut, .park, .unpark, .rollIn, .lower, .engage, .reclamp]

/-- The ranges of the 19 items without an index, items 12 to 30 of R177: lowest, highest and default. -/
def singleItems : List (Int × Int × Int) :=
  [ (0, 200, 20),        -- 12 reserve, L/min
    (-20, 100, 10),      -- 13 T_cold, degrees C
    (-20, 100, 30),      -- 14 T_warm
    (30, 115, 75),       -- 15 T_hot
    (10, 100, 30),       -- 16 heel limit, 0.1 degree
    (5, 50, 10),         -- 17 heel margin
    (50, 400, 200),      -- 18 wind limit, 0.1 m/s
    (50, 500, 200),      -- 19 creep, per-mille
    (100, 2990, 600),    -- 20 slow distance, mm
    (20, 2980, 400),     -- 21 wait distance, mm
    (5, 100, 15),        -- 22 stop band, mm
    (5, 100, 20),        -- 23 stall speed, mm/s
    (10, 100, 30),       -- 24 stall time, 0.1 s
    (10, 500, 50),       -- 25 ramp-up step, per-mille
    (10, 500, 100),      -- 26 ramp-down step
    (200, 2000, 500),    -- 27 deadtime, ms
    (0, 400, 150),       -- 28 duty offset, per-mille
    (100, 6000, 600),    -- 29 idle time, 0.1 s
    (200, 2000, 900) ]   -- 30 low-pressure limit, deci-bar

/-- The defaults of R177. -/
def Image.default : Image where
  hatch := Tbl.fill 9 ⟨7600, 1, 2, 0⟩
  cleat := Tbl.fill 288 ⟨1, 0, 1⟩
  step := ⟨StepName.all.map StepName.defaults, rfl⟩
  pump := Tbl.fill 3 180
  single := ⟨singleItems.map (fun r => r.2.2), rfl⟩

/-- Stow length of a hatch, mm. -/
def Image.stow (p : Image) (h : Hatch) : Nat := (p.hatch.get h).stow.toNat

/-- Lead panel of a hatch (R65). -/
def Image.lead (p : Image) (h : Hatch) : Panel := if (p.hatch.get h).lead = 2 then .stbd else .port

/-- Retired allowance of a hatch (R16). -/
def Image.allowance (p : Image) (h : Hatch) : Nat := (p.hatch.get h).allowance.toNat

/-- Whether the stop loop of a hatch clears as AUTO (R128). -/
def Image.clearsAuto (p : Image) (h : Hatch) : Bool := decide ((p.hatch.get h).clearing = 1)

/-- Whether a cleat position is fitted (R1). -/
def Image.fitted (p : Image) (c : CleatId) : Bool := decide ((p.cleat.get c).fitted = 1)

/-- Whether the kind of a cleat is MANUAL (R1). -/
def Image.isManual (p : Image) (c : CleatId) : Bool := decide ((p.cleat.get c).kind = 1)

/-- Whether a cleat has its sensor (R1). -/
def Image.hasSensor (p : Image) (c : CleatId) : Bool := decide ((p.cleat.get c).sensor = 1)

/-- N of a step, L/min. -/
def Image.stepN (p : Image) (t : StepName) : Nat := (p.step.get t.idx).n.toNat

/-- M of a step, L/min. -/
def Image.stepM (p : Image) (t : StepName) : Nat := (p.step.get t.idx).m.toNat

/-- Timeout of a step, 0.1 s. -/
def Image.stepTimeout (p : Image) (t : StepName) : Nat := (p.step.get t.idx).timeout.toNat

/-- Rated flow of a pump set, L/min. -/
def Image.rated (p : Image) (k : PumpId) : Nat := (p.pump.get k).toNat

def Image.reserve (p : Image) : Nat := (p.single.get 0).toNat
def Image.tCold (p : Image) : Int := p.single.get 1
def Image.tWarm (p : Image) : Int := p.single.get 2
def Image.tHot (p : Image) : Int := p.single.get 3
def Image.heelLimit (p : Image) : Int := p.single.get 4
def Image.heelMargin (p : Image) : Int := p.single.get 5
def Image.windLimit (p : Image) : Int := p.single.get 6
def Image.creep (p : Image) : Nat := (p.single.get 7).toNat
def Image.slow (p : Image) : Nat := (p.single.get 8).toNat
def Image.wait (p : Image) : Nat := (p.single.get 9).toNat
def Image.band (p : Image) : Nat := (p.single.get 10).toNat
def Image.stallSpeed (p : Image) : Int := p.single.get 11
def Image.stallTime (p : Image) : Nat := (p.single.get 12).toNat
def Image.rampUp (p : Image) : Nat := (p.single.get 13).toNat
def Image.rampDown (p : Image) : Nat := (p.single.get 14).toNat
def Image.deadtime (p : Image) : Nat := (p.single.get 15).toNat
def Image.offset (p : Image) : Nat := (p.single.get 16).toNat
def Image.idleTime (p : Image) : Nat := (p.single.get 17).toNat
def Image.lowLimit (p : Image) : Int := p.single.get 18

/-- The index range of an item number, lowest and highest; none where R177 has no such item. An item without an index
takes the index 0 (R190). -/
def itemIndices (item : Nat) : Option (Nat × Nat) :=
  if item = 0 then none
  else if item ≤ 4 then some (1, 9)
  else if item ≤ 7 then some (0, 287)
  else if item ≤ 10 then some (1, 9)
  else if item = 11 then some (1, 3)
  else if item ≤ 30 then some (0, 0)
  else none

/-- Whether R177 has this item and its index range holds this index. -/
def itemExists (item idx : Nat) : Bool :=
  match itemIndices item with
  | some (lo, hi) => decide (lo ≤ idx) && decide (idx ≤ hi)
  | none => false

/-- The range of an item's value (R177, with the codes of R190). -/
def itemRange (item : Nat) : Int × Int :=
  match item with
  | 1 => (3000, 12000)
  | 2 => (1, 2)
  | 3 => (0, 4)
  | 4 => (0, 1)
  | 5 => (0, 1)
  | 6 => (0, 1)
  | 7 => (0, 1)
  | 8 => (1, 400)
  | 9 => (1, 400)
  | 10 => (10, 6000)
  | 11 => (0, 400)
  | k => match singleItems[k - 12]? with
    | some (lo, hi, _) => (lo, hi)
    | none => (0, 0)

/-- Whether a value lies in its item's range and, for a deadtime, is a multiple of 10 (R177, row 5 of R181). -/
def itemValueOk (item : Nat) (v : Int) : Bool :=
  decide ((itemRange item).1 ≤ v) && decide (v ≤ (itemRange item).2) && (item != 27 || decide (v % 10 = 0))

/-- The value of an item at an index; 0 where there is no such item or index. -/
def Image.item (p : Image) (item idx : Nat) : Int :=
  if item ≤ 4 then
    if h : idx - 1 < 9 then
      let r := p.hatch.get ⟨idx - 1, h⟩
      match item with
      | 1 => r.stow
      | 2 => r.lead
      | 3 => r.allowance
      | 4 => r.clearing
      | _ => 0
    else 0
  else if item ≤ 7 then
    if h : idx < 288 then
      let r := p.cleat.get ⟨idx, h⟩
      match item with
      | 5 => r.fitted
      | 6 => r.kind
      | _ => r.sensor
    else 0
  else if item ≤ 10 then
    if h : idx - 1 < 9 then
      let r := p.step.get ⟨idx - 1, h⟩
      match item with
      | 8 => r.n
      | 9 => r.m
      | _ => r.timeout
    else 0
  else if item = 11 then
    if h : idx - 1 < 3 then p.pump.get ⟨idx - 1, h⟩ else 0
  else if h : item - 12 < 19 then p.single.get ⟨item - 12, h⟩ else 0

/-- The image with an item's value at an index replaced; unchanged where there is no such item or index. -/
def Image.withItem (p : Image) (item idx : Nat) (v : Int) : Image :=
  if item ≤ 4 then
    if h : idx - 1 < 9 then
      { p with hatch := p.hatch.upd ⟨idx - 1, h⟩ (fun r =>
          match item with
          | 1 => { r with stow := v }
          | 2 => { r with lead := v }
          | 3 => { r with allowance := v }
          | 4 => { r with clearing := v }
          | _ => r) }
    else p
  else if item ≤ 7 then
    if h : idx < 288 then
      { p with cleat := p.cleat.upd ⟨idx, h⟩ (fun r =>
          match item with
          | 5 => { r with fitted := v }
          | 6 => { r with kind := v }
          | _ => { r with sensor := v }) }
    else p
  else if item ≤ 10 then
    if h : idx - 1 < 9 then
      { p with step := p.step.upd ⟨idx - 1, h⟩ (fun r =>
          match item with
          | 8 => { r with n := v }
          | 9 => { r with m := v }
          | _ => { r with timeout := v }) }
    else p
  else if item = 11 then
    if h : idx - 1 < 3 then { p with pump := p.pump.set ⟨idx - 1, h⟩ v } else p
  else if h : item - 12 < 19 then { p with single := p.single.set ⟨item - 12, h⟩ v } else p

/-- The place of an item and index among the 949 values of the image, counting item by item in the order of R177. -/
def itemPlace (item idx : Nat) : Nat :=
  if item ≤ 4 then (item - 1) * 9 + (idx - 1)
  else if item ≤ 7 then 36 + (item - 5) * 288 + idx
  else if item ≤ 10 then 900 + (item - 8) * 9 + (idx - 1)
  else if item = 11 then 927 + (idx - 1)
  else 930 + (item - 12)

/-- The item and index at a place of the 949. -/
def placeItem (k : Nat) : Nat × Nat :=
  if k < 36 then (k / 9 + 1, k % 9 + 1)
  else if k < 900 then ((k - 36) / 288 + 5, (k - 36) % 288)
  else if k < 927 then ((k - 900) / 9 + 8, (k - 900) % 9 + 1)
  else if k < 930 then (11, k - 927 + 1)
  else (k - 930 + 12, 0)

/-- The constraints of R178. -/
def Image.sound (p : Image) : Bool :=
  p.step.items.all (fun t => decide (t.m ≤ t.n)) &&
  decide (p.tCold < p.tWarm) &&
  decide (p.band < p.wait) && decide (p.wait < p.slow) &&
  p.hatch.items.all (fun h => decide ((p.slow : Int) < h.stow)) &&
  p.cleat.items.all (fun c => decide (c.kind = 0 → c.sensor = 1))

/-- Every value of the image lies in its range (R177). -/
def Image.inRange (p : Image) : Bool :=
  p.hatch.items.all (fun h =>
    itemValueOk 1 h.stow && itemValueOk 2 h.lead && itemValueOk 3 h.allowance && itemValueOk 4 h.clearing) &&
  p.cleat.items.all (fun c => itemValueOk 5 c.fitted && itemValueOk 6 c.kind && itemValueOk 7 c.sensor) &&
  p.step.items.all (fun t => itemValueOk 8 t.n && itemValueOk 9 t.m && itemValueOk 10 t.timeout) &&
  p.pump.items.all (itemValueOk 11) &&
  (p.single.items.zipIdx.all fun (v, k) => itemValueOk (k + 12) v)

end Sys2Proof
end

