-- ==== Sys2Proof/Machine/State.lean ====
section
/-!
DEFINITION. Machine/State.lean: everything the manual gives the part, block by block (Figure 1 of spec/00_scope.md),
as plain data, and the part right after a reset. INVENTORY.md lists each field with its rule and its reset value.
A value the manual defines from other state (a relay that is off while a hatch is UNKNOWN, a line that is asserted
while a condition holds) is stored once and read by a function of Machine/Flags.lean.
-/

namespace Sys2Proof.Machine

/-! ### Names -/

/-- The state of a hatch (R47). -/
inductive HatchState where
  | unknown | closed | open | opening | closing | stopping | held | fault
  deriving DecidableEq, Repr

/-- Why a hatch is HELD (R61). -/
inductive HeldCause where
  | halt | hold | trip | heel | restart | ack
  deriving DecidableEq, Repr

/-- Why a hatch is FAULT (R72). -/
inductive FaultCause where
  | stepTimeout | stall | overtravel | positionSensor | jackSensor | valve | junction
  deriving DecidableEq, Repr

/-- What follows a STOPPING (R60). -/
inductive NextState where
  | held (cause : HeldCause)
  | closing
  deriving DecidableEq, Repr

/-- The class of a step (R52, R98). -/
inductive Cls where
  | urgent | secure | normal
  deriving DecidableEq, Repr

/-- The phase of a current step (R47). -/
inductive Phase where
  | gated | queued | active | shed
  deriving DecidableEq, Repr

/-- The verdict of a cleat (R5). -/
inductive CleatVerdict where
  | engaged | released | moving | sensorFault | noSensor | unverified
  deriving DecidableEq, Repr

/-- The service of a cleat record that is not ABSENT (R2). -/
inductive Service where
  | inService | handSet | retired
  deriving DecidableEq, Repr

/-- The wanted field of a cleat record (R15). -/
inductive Wanted where
  | no | waiting | taken
  deriving DecidableEq, Repr

/-- The securing verdict of a hatch (R16). -/
inductive SecVerdict where
  | secured | securedReduced | unsecured | notClosed | unverified
  deriving DecidableEq, Repr

/-- The reason an UNSECURED verdict carries (R17). -/
inductive Reason where
  | panelPort
  | panelStbd
  | cleat (id : CleatId)
  | retiredExcess
  deriving DecidableEq, Repr

/-- The kind of a hold entry (R27). -/
inductive HoldKind where
  | personnel | loader | crane | lockout | restart
  deriving DecidableEq, Repr

/-- The state of a pump set (R81). -/
inductive PumpState where
  | off | starting | running | stopping | tripped | disabled
  deriving DecidableEq, Repr

/-- Why a pump set is TRIPPED (R81). -/
inductive TripCause where
  | failToStart | runLost | failToStop
  deriving DecidableEq, Repr

/-- The jack verdict of a panel (R136). -/
inductive JackVerdict where
  | lifted | lowered | between | switchFault | unverified
  deriving DecidableEq, Repr

/-- The state of a junction record (R132). -/
inductive JunctionState where
  | online | missing | lost
  deriving DecidableEq, Repr

/-- The mismatch class of a channel (R116). -/
inductive Mismatch where
  | none | onWithoutCurrent | currentWithoutOn
  deriving DecidableEq, Repr

/-- The phase of the jog (R121). -/
inductive JogPhase where
  | queued | active | shed | ending
  deriving DecidableEq, Repr

/-- The state of the configuration image (R176). -/
inductive ImageState where
  | reading | valid | invalid
  deriving DecidableEq, Repr

/-- What last reset the part (R187). -/
inductive ResetCause where
  | powerOn | resetN
  deriving DecidableEq, Repr

/-- The answer codes, in the order of R189. -/
inductive Code where
  | ok | accepted | merged | notFound | refusedAuthority | unknownRequest | unknownItem | badValue | blocked | busy
  | already | full | countFull | notOwner | manualFastened | faulted | tripped | squallActive | notReady
  deriving DecidableEq, Repr

/-- One value for each panel of a hatch. -/
structure Two (α : Type) where
  port : α
  stbd : α
  deriving DecidableEq, Repr

/-- One value for each cleat group of a hatch (R1). -/
structure Groups where
  port : Bool
  stbd : Bool
  cross : Bool
  deriving DecidableEq, Repr

/-! ### Securing Table (Chapter 1) -/

/-- One sample of a cleat or jack switch pair. -/
structure Sample where
  first : Bool
  second : Bool
  deriving DecidableEq, Repr

/-- The confirmation part of a cleat record (R2). -/
structure Confirmation where
  fastened : Bool
  station : StationId
  time : Nat
  deriving DecidableEq, Repr

/-- The retirement part of a cleat record (R2). -/
structure Retirement where
  station : StationId
  time : Nat
  deriving DecidableEq, Repr

/-- A cleat record of a slot that is not ABSENT (R2). -/
structure CleatRec where
  manual : Bool
  sensor : Bool
  service : Service
  /-- newest first, at most 8 -/
  history : List Sample
  verdict : CleatVerdict
  confirmation : Option Confirmation
  retirement : Option Retirement
  faultCount : Nat
  tries : Nat
  wanted : Wanted
  lost : Bool
  deriving DecidableEq, Repr

/-- The Securing Table: a slot is `none` when its service is ABSENT (R3), and each hatch has its verdict with its
reason (R16, R17). -/
structure SecuringTable where
  slots : Tbl 288 (Option CleatRec)
  verdict : Tbl 9 SecVerdict
  reason : Tbl 9 (Option Reason)
  deriving DecidableEq, Repr

/-! ### Hold List (Chapter 2) -/

/-- A hold entry (R27); bit `h` of the scope stands for hatch `h`, as in the request frame (R190). -/
structure HoldEntry where
  id : Nat
  owner : StationId
  kind : HoldKind
  scope : BitVec 9
  panel : Option Panel
  count : Nat
  stale : Bool
  placed : Nat
  deriving DecidableEq, Repr

/-- The Hold List: the entries, oldest first, and the next-id counter (R26, R28). -/
structure HoldList where
  entries : List HoldEntry
  counter : Nat
  deriving DecidableEq, Repr

/-! ### Hatch Sequencer (Chapters 3 and 7) -/

/-- The share and, for a ROLL step, the roll command last handed to a step (R55). -/
structure Grant where
  share : Nat
  roll : Option Nat
  deriving DecidableEq, Repr

/-- The current step of a hatch (R47). -/
structure StepCtx where
  name : StepName
  cls : Cls
  phase : Phase
  /-- 0.1 s -/
  elapsed : Nat
  grant : Option Grant
  /-- whether it has been granted before: at the first grant arrival flags are set and groups fixed (R55) -/
  started : Bool
  arrived : Two Bool
  /-- 0.1 s -/
  stallTimer : Two Nat
  /-- the groups a RECLAMP drives -/
  groups : Groups
  deriving DecidableEq, Repr

/-- The context of a hatch (R47). Bit `n` of `faults` stands for cause `n` in the order of R189. The reclamp set and
the blocked flag are read from the cleat records and the Hold List, which they follow (R154, R80). -/
structure HatchCtx where
  state : HatchState
  held : Option HeldCause
  faults : BitVec 7
  lastFault : Option FaultCause
  next : Option NextState
  step : Option StepCtx
  mark : Bool
  deriving DecidableEq, Repr

/-! ### Flow Arbiter and Supply Monitor (Chapter 4) -/

/-- What an entry of the Arbiter is: a step or the jog of a channel (R96). -/
inductive Demand where
  | step (name : StepName)
  | jog (channel : Channel)
  deriving DecidableEq, Repr

/-- An entry of the Arbiter (R96); `shed` is its phase in the pending list. -/
structure Entry where
  hatch : Hatch
  demand : Demand
  cls : Cls
  n : Nat
  m : Nat
  arrival : Nat
  shed : Bool
  deriving DecidableEq, Repr

/-- An entry of the granted set with its share and roll command (R96). -/
structure Granted where
  entry : Entry
  grant : Grant
  deriving DecidableEq, Repr

/-- The Flow Arbiter (R87, R88, R96, R97). -/
structure Arbiter where
  pending : List Entry
  /-- oldest grant first -/
  granted : List Granted
  counter : Nat
  /-- 0.1 s -/
  idleTimer : Nat
  /-- 0.1 s -/
  reductionTimer : Nat
  /-- the pump set the reduction timer counts for -/
  reductionSet : Option PumpId
  deriving DecidableEq, Repr

/-- A pump set record (R81); its start line is read from its state. -/
structure Pump where
  state : PumpState
  rated : Nat
  feedback : Bool
  cause : Option TripCause
  /-- 0.1 s -/
  timer : Nat
  /-- 0.1 s -/
  age : Nat
  deriving DecidableEq, Repr

/-- The Supply Monitor (R81, R91, R92, R95); S and d are read from the pumps and the oil temperature. -/
structure Supply where
  pumps : Tbl 3 Pump
  lowPressure : Bool
  lowPressureSeen : Bool
  overtemp : Bool
  overtempSeen : Bool
  /-- 0.1 s -/
  lowTimer : Nat
  /-- 0.1 s -/
  recoveryTimer : Nat
  /-- the available flow A last handed to the Arbiter -/
  available : Nat
  deriving DecidableEq, Repr

/-! ### Valve Drive and Stop Line Unit (Chapter 5) -/

/-- A buffered target: a direction and a command (R111). -/
structure Target where
  dir : Dir
  command : Nat
  deriving DecidableEq, Repr

/-- A valve channel (R109). -/
structure ChannelRec where
  /-- master JOG; SEQUENCER otherwise -/
  jogMaster : Bool
  target : Target
  /-- the target the Sequencer last wrote, taken back when the master returns from JOG (R111) -/
  sequencerTarget : Target
  working : Option Dir
  applied : Nat
  /-- the duty of the channel's driver, per-mille (R110): taken from the record at each change of it and at each drive
  update, so that a new offset acts at the next update (R115) -/
  duty : Nat
  /-- ms -/
  deadtime : Nat
  sensed : Option Dir
  mismatch : Mismatch
  /-- ms -/
  mismatchTimer : Nat
  coilFault : Bool
  /-- whether the buffered command taken at the last drive update was above 0 (R117) -/
  tookCommand : Bool
  deriving DecidableEq, Repr

/-- The seven channels of one hatch. -/
structure HatchChannels where
  rollPort : ChannelRec
  rollStbd : ChannelRec
  jackPort : ChannelRec
  jackStbd : ChannelRec
  cleatPort : ChannelRec
  cleatStbd : ChannelRec
  cleatCross : ChannelRec
  deriving DecidableEq, Repr

/-- The jog record while it is present (R121). -/
structure Jog where
  hatch : Hatch
  channel : Channel
  dir : Dir
  command : Nat
  phase : JogPhase
  /-- ms -/
  timer : Nat
  deriving DecidableEq, Repr

/-- The Valve Drive; a VSUP relay is read from its hatch's state and cut flag (R120). -/
structure Drive where
  channels : Tbl 9 HatchChannels
  cut : Tbl 9 Bool
  jog : Option Jog
  deriving DecidableEq, Repr

/-- The Stop Line Unit (R125, R128): line levels, latches and clearing timers. -/
structure StopLines where
  estopOpen : Bool
  loopOpen : Tbl 9 Bool
  estopLatch : Bool
  latch : Tbl 9 Bool
  /-- 0.1 s -/
  clearing : Tbl 9 Nat
  deriving DecidableEq, Repr

/-! ### Junction Scanner and Analog Input Unit (Chapter 6) -/

/-- The panel part of a junction record (R130). -/
structure PanelSense where
  position : Option Nat
  accepted : List Nat
  rejectRun : Nat
  rejectTotal : Nat
  candidates : List Nat
  speed : Option Int
  jackHistory : List Sample
  jack : JackVerdict
  deriving DecidableEq, Repr

/-- A junction record (R130); `goodFrame` says whether the present scan has had its good frame (R131), and `poll` is the
byte that the Scanner sent on the line at the beginning of that scan, none where no scan is under way (R131, R193). -/
structure Junction where
  state : JunctionState
  misses : Nat
  frameErrors : Nat
  missedScans : Nat
  panels : Two PanelSense
  goodFrame : Bool
  poll : Option Byte
  deriving DecidableEq, Repr

/-- An analog channel record (R140). -/
structure AnalogRec where
  code : Nat
  value : Option Int
  fault : Bool
  outRun : Nat
  inRun : Nat
  faultCount : Nat
  deriving DecidableEq, Repr

/-- The Analog Input Unit (R140). -/
structure Analog where
  pressure : AnalogRec
  temperature : AnalogRec
  heel : AnalogRec
  wind : AnalogRec
  deriving DecidableEq, Repr

/-! ### Link Port (Chapter 8) -/

/-- An outstanding request (R160). -/
structure Outstanding where
  kind : Byte
  tag : Byte
  deriving DecidableEq, Repr

/-- A station record (R160); its role is fixed by its number. -/
structure Station where
  present : Bool
  /-- 0.1 s -/
  silence : Nat
  outstanding : Option Outstanding
  deriving DecidableEq, Repr

/-- An accepted request frame (R161, R190). -/
structure RxFrame where
  station : StationId
  data : Tbl 8 Byte
  deriving DecidableEq, Repr

/-- A frame of the transmit list: its identifier and its eight bytes (R166). -/
structure TxFrame where
  ident : Nat
  data : Tbl 8 Byte
  deriving DecidableEq, Repr

/-- The Link Port (R160, R163, R166, R174). -/
structure Link where
  stations : Tbl 16 Station
  rx : List RxFrame
  overrun : Bool
  /-- whether a frame has been dropped since the last ship frame was built (R174) -/
  droppedSinceShip : Bool
  tx : List TxFrame
  deriving DecidableEq, Repr

/-! ### Configuration Store and Retention Memory (Chapter 9) -/

/-- A write under way to the external memory (R182). -/
structure ParamWrite where
  item : Nat
  index : Nat
  value : Int
  deriving DecidableEq, Repr

/-- The Configuration Store (R176); `memoryFailing` says that a reset has found the external memory with a failing
check word after a write that was not stored (R183), and that no image has been stored whole since. -/
structure Store where
  image : ImageState
  copy : Image
  written : Tbl 949 Bool
  write : Option ParamWrite
  unsaved : Option (Nat × Nat)
  memoryFailing : Bool
  deriving DecidableEq, Repr

/-- The kept fields of a cleat record (R24); a service of `none` is ABSENT. -/
structure Kept where
  service : Option Service
  confirmation : Option Confirmation
  retirement : Option Retirement
  faultCount : Nat
  deriving DecidableEq, Repr

/-- A record whose change waits for its retention write (R185). -/
inductive RetItem where
  | holds
  | cleat (id : CleatId)
  deriving DecidableEq, Repr

/-- A retention write under way, with the record as it stood when the write began (R185). -/
inductive RetWrite where
  | holds (entries : List HoldEntry) (counter : Nat)
  | cleat (id : CleatId) (kept : Kept)
  deriving DecidableEq, Repr

/-- The retention memory and its write list (R185). The state of a hold entry is not kept: `stale` is false here and is
given afresh at a start-up (R45, R46). -/
structure Retention where
  entries : List HoldEntry
  counter : Nat
  cleats : Tbl 288 Kept
  checkOk : Bool
  waiting : List RetItem
  underWay : Option RetWrite
  deriving DecidableEq, Repr

/-! ### The hand-offs of one event -/

/-- A hand-off from one block to another that is still to be taken within the present event (spec/00_scope.md: "A block
changes another block's state by passing it an event or a request, and the owner acts on it"). Machine/Cascade.lean says what
each does. The list of them is the model's own; between commands it is empty (assumption log 1). -/
inductive Task where
  /-- the Arbiter runs an allocation (R100) -/
  | allocate
  /-- a step's completion or withdrawal, or the end of a jog, reaches the Arbiter (R99) -/
  | leave (h : Hatch)
  /-- the class of a hatch's current step, changed with its mark, reaches the Arbiter (R99, R146) -/
  | reclass (h : Hatch)
  /-- the Arbiter hands a grant, a shed or a new share to the Sequencer (R55, R107) -/
  | grant (h : Hatch) (g : Grant)
  | shed (h : Hatch)
  | reshare (h : Hatch) (g : Grant)
  /-- a granted step meets its sensing, the heel and its done condition, once the whole allocation is handed on (R55, R57,
  R67, R70) -/
  | activated (h : Hatch)
  /-- the Arbiter hands a grant or a shed to the jog (R107, R124) -/
  | jogGrant
  | jogShed
  /-- a step joins after the allocation of the step it replaces (R158) -/
  | join (h : Hatch) (name : StepName)
  /-- the step boundary after a completed step (R58) -/
  | boundary (h : Hatch) (done : StepName)
  /-- the done condition of an ACTIVE step is tested (R57) -/
  | doneTest (h : Hatch)
  /-- the Securing Table hands on a verdict change (R8) -/
  | cleatChange (id : CleatId) (old new : CleatVerdict)
  /-- the Scanner hands on a position sample, with whether the closed-band test changed (R135) -/
  | position (h : Hatch) (p : Panel) (bandChanged : Bool)
  /-- the Scanner hands on a changed jack verdict (R135) -/
  | jack (h : Hatch) (p : Panel)
  /-- the analog unit hands on heel and wind to one hatch (R143) -/
  | heelWind (h : Hatch)
  /-- the squall start is tried (R149) -/
  | squallTry (h : Hatch)
  /-- the conditions of a RECLAMP request are tested (R155) -/
  | reclampTest (h : Hatch)
  /-- a STOPPING hatch has all channels at applied 0 (R60) -/
  | stoppingEnd (h : Hatch)
  /-- the Valve Drive hands on a coil fault (R117, R118) -/
  | openCoil (h : Hatch) (c : Channel)
  | stuckOn (h : Hatch) (c : Channel)
  /-- the answer whose data are read after the event (R190) -/
  | answer (f : RxFrame) (code : Code) (extra : Nat)
  deriving DecidableEq, Repr

/-! ### The whole part -/

/-- The state of the part. -/
structure State where
  table : SecuringTable
  holds : HoldList
  hatches : Tbl 9 HatchCtx
  arbiter : Arbiter
  supply : Supply
  drive : Drive
  stops : StopLines
  junctions : Tbl 9 Junction
  analog : Analog
  link : Link
  store : Store
  retention : Retention
  /-- KEY_OVERRIDE and KEY_SERVICE as last read: closed -/
  keyOverride : Bool
  keyService : Bool
  /-- held in reset (R187) -/
  inReset : Bool
  resetCause : ResetCause
  /-- seconds since the last reset -/
  uptime : Nat
  /-- MODEL: tens of milliseconds within the present second (assumption log 2) -/
  ticks : Nat
  /-- MODEL: the hand-offs still to be taken within the present event (assumption log 1) -/
  agenda : List Task
  /-- MODEL: the commands that are waiting, first in, first out -/
  pending : List Instr
  deriving DecidableEq, Repr

/-- The faults of a step: none. Every command of this block has an effect in every state, so no constructor exists and
no step answers with a fault. -/
inductive Fault
  deriving DecidableEq, Repr

/-- The refusals of a step. -/
inductive Refusal where
  /-- raised by an arm of `exec` whose command has no meaning in the model yet; safe, since nothing is claimed of it -/
  | notModelled (mnemonic : String)
  deriving DecidableEq, Repr

/-! ### Reset values, block by block -/

/-- The context of a hatch after a reset (R47). -/
def HatchCtx.reset : HatchCtx := ⟨.unknown, none, 0, none, none, none, false⟩

/-- A panel part after a reset (R130). -/
def PanelSense.reset : PanelSense := ⟨none, [], 0, 0, [], none, [], .unverified⟩

/-- A junction record after a reset, before the first scan (R130). -/
def Junction.reset : Junction := ⟨.lost, 3, 0, 0, ⟨.reset, .reset⟩, false, none⟩

/-- A junction record as the start event leaves it: the first scan of its line has begun with the poll, the hatch number 1
to 9 (R188, R131, R193). -/
def Junction.polled (h : Hatch) : Junction := { Junction.reset with poll := some (BitVec.ofNat 8 (h.val + 1)) }

/-- An analog channel after a reset (R140). -/
def AnalogRec.reset : AnalogRec := ⟨0, none, false, 0, 0, 0⟩

/-- A valve channel after a reset, with what its feedback line reads (R109). -/
def ChannelRec.reset (sensed : Option Dir) : ChannelRec where
  jogMaster := false
  target := ⟨.a, 0⟩
  sequencerTarget := ⟨.a, 0⟩
  working := none
  applied := 0
  duty := 0
  deadtime := 2000
  sensed := sensed
  mismatch := .none
  mismatchTimer := 0
  coilFault := false
  tookCommand := false

/-- A pump set after a reset, with what its run feedback reads: its rated flow is 0 while the image is not VALID, so it
is DISABLED unless it is found running (R81, R84, R90). -/
def Pump.reset (feedback : Bool) : Pump where
  state := if feedback then .tripped else .disabled
  rated := 0
  feedback := feedback
  cause := if feedback then some .failToStop else none
  timer := 0
  age := 0

/-- A station record after a reset (R160). -/
def Station.reset : Station := ⟨false, 0, none⟩

/-- The kept fields of a cleat as a newly built record holds them (R186). -/
def Kept.built : Kept := ⟨some .inService, none, none, 0⟩

/-- The Flow Arbiter after a reset (R87, R88, R96, R97). -/
def Arbiter.reset : Arbiter := ⟨[], [], 0, 0, 0, none⟩

/-- The part right after the start event of a reset: every block at the values of its chapter, with every loop closed, no run feedback, no
coil current, the retention memory valid and holding no entry, and both keys open (assumption log 3). -/
def State.reset : State where
  table := ⟨Tbl.fill 288 none, Tbl.fill 9 .unverified, Tbl.fill 9 none⟩
  holds := ⟨[], 0⟩
  hatches := Tbl.fill 9 .reset
  arbiter := .reset
  supply := ⟨Tbl.fill 3 (Pump.reset false), false, false, false, false, 0, 0, 0⟩
  drive :=
    ⟨Tbl.fill 9 ⟨.reset none, .reset none, .reset none, .reset none, .reset none, .reset none, .reset none⟩,
      Tbl.fill 9 false, none⟩
  stops := ⟨false, Tbl.fill 9 false, false, Tbl.fill 9 false, Tbl.fill 9 0⟩
  junctions := Tbl.build .polled
  analog := ⟨.reset, .reset, .reset, .reset⟩
  link := ⟨Tbl.fill 16 .reset, [], false, false, []⟩
  store := ⟨.reading, .default, Tbl.fill 949 false, none, none, false⟩
  retention := ⟨[], 0, Tbl.fill 288 .built, true, [], none⟩
  keyOverride := false
  keyService := false
  inReset := false
  resetCause := .powerOn
  uptime := 0
  ticks := 0
  agenda := []
  pending := []

end Sys2Proof.Machine
end

