-- ==== Sys2Proof/Machine/Operands.lean ====
section
/-!
DEFINITION. Machine/Operands.lean: the codes of R189, numbers as bytes, the operands of a request frame (R190), and the
reading and writing of the record a panel, channel or cleat names.
-/

namespace Sys2Proof

def Panel.other : Panel → Panel
  | .port => .stbd
  | .stbd => .port

def Dir.other : Dir → Dir
  | .a => .b
  | .b => .a

/-- 1 to 9 in the order of the step table (R189). -/
def StepName.code (t : StepName) : Nat := t.idx.val + 1

def Channel.code : Channel → Nat
  | .rollPort => 0 | .rollStbd => 1 | .jackPort => 2 | .jackStbd => 3 | .cleatPort => 4 | .cleatStbd => 5 | .cleatCross => 6

/-- A ROLL step. -/
def StepName.isRoll : StepName → Bool
  | .rollOut | .rollIn => true
  | .release | .lift | .park | .unpark | .lower | .engage | .reclamp => false

/-- A JACK step. -/
def StepName.isJack : StepName → Bool
  | .lift | .park | .unpark | .lower => true
  | .release | .rollOut | .rollIn | .engage | .reclamp => false

end Sys2Proof

namespace Sys2Proof.Machine
open Sys2Proof

/-! ### Records named by a panel, a channel, a group -/

def Two.get {α : Type} (t : Two α) : Panel → α
  | .port => t.port
  | .stbd => t.stbd

def Two.set {α : Type} (t : Two α) (p : Panel) (x : α) : Two α :=
  match p with
  | .port => { t with port := x }
  | .stbd => { t with stbd := x }

def Two.both {α : Type} (t : Two α) (f : α → Bool) : Bool := f t.port && f t.stbd

def Two.either {α : Type} (t : Two α) (f : α → Bool) : Bool := f t.port || f t.stbd

/-- The seven channels in the order of R109. -/
def allChannels : List Channel := [.rollPort, .rollStbd, .jackPort, .jackStbd, .cleatPort, .cleatStbd, .cleatCross]

def HatchChannels.get (t : HatchChannels) : Channel → ChannelRec
  | .rollPort => t.rollPort
  | .rollStbd => t.rollStbd
  | .jackPort => t.jackPort
  | .jackStbd => t.jackStbd
  | .cleatPort => t.cleatPort
  | .cleatStbd => t.cleatStbd
  | .cleatCross => t.cleatCross

def HatchChannels.set (t : HatchChannels) (c : Channel) (x : ChannelRec) : HatchChannels :=
  match c with
  | .rollPort => { t with rollPort := x }
  | .rollStbd => { t with rollStbd := x }
  | .jackPort => { t with jackPort := x }
  | .jackStbd => { t with jackStbd := x }
  | .cleatPort => { t with cleatPort := x }
  | .cleatStbd => { t with cleatStbd := x }
  | .cleatCross => { t with cleatCross := x }

/-- Every channel of the hatch changed by `f`. -/
def HatchChannels.map (t : HatchChannels) (f : Channel → ChannelRec → ChannelRec) : HatchChannels where
  rollPort := f .rollPort t.rollPort
  rollStbd := f .rollStbd t.rollStbd
  jackPort := f .jackPort t.jackPort
  jackStbd := f .jackStbd t.jackStbd
  cleatPort := f .cleatPort t.cleatPort
  cleatStbd := f .cleatStbd t.cleatStbd
  cleatCross := f .cleatCross t.cleatCross

/-- Whether the channel is proportional, and then whose panel it rolls (R109). -/
def rollPanel? : Channel → Option Panel
  | .rollPort => some .port
  | .rollStbd => some .stbd
  | .jackPort | .jackStbd | .cleatPort | .cleatStbd | .cleatCross => none

/-- The roll channel of a panel (R109). -/
def rollChannel : Panel → Channel
  | .port => .rollPort
  | .stbd => .rollStbd

/-- The three groups of a hatch's cleats (R1). -/
inductive Group where
  | port | stbd | cross
  deriving DecidableEq, Repr

/-- The hatch of a cleat id: floor(id / 32) (R1). -/
def cleatHatch (id : CleatId) : Hatch := ⟨id.val / 32, by omega⟩

/-- The cleat id of a position of a hatch (R1). -/
def cleatAt (h : Hatch) (pos : Fin 32) : CleatId := ⟨h.val * 32 + pos.val, by omega⟩

/-- The 32 cleat ids of a hatch, in id order. -/
def hatchCleats (h : Hatch) : List CleatId := (List.finRange 32).map (cleatAt h)

/-- The group of a cleat: positions 0 to 13 PORT, 14 to 27 STBD, 28 to 31 CROSS (R1). -/
def cleatGroup (id : CleatId) : Group :=
  if id.val % 32 ≤ 13 then .port else if id.val % 32 ≤ 27 then .stbd else .cross

/-- The LOCAL station of a hatch: station n + 1 for Hn (R9). -/
def localStation (h : Hatch) : StationId := ⟨h.val + 2, by omega⟩

/-- The nine hatches. -/
def allHatches : List Hatch := List.finRange 9

/-! ### Roles (R160) -/

/-- The role of a station number. -/
inductive Role where
  | bridge | cargo | local | loader | monitor | service | none
  deriving DecidableEq, Repr

def roleOf (n : StationId) : Role :=
  if n = 0 then .bridge else if n = 1 then .cargo else if n.val ≤ 10 then .local else if n = 11 then .loader
  else if n = 12 then .monitor else if n = 13 then .service else .none

/-- The SERVICE station. -/
def serviceStation : StationId := 13

/-! ### Codes (R189) -/

def Role.code : Role → Nat
  | .bridge => 0 | .cargo => 1 | .local => 2 | .loader => 3 | .monitor => 4 | .service => 5 | .none => 15

def HatchState.code : HatchState → Nat
  | .unknown => 0 | .closed => 1 | .open => 2 | .opening => 3 | .closing => 4 | .stopping => 5 | .held => 6 | .fault => 7

def HeldCause.code : HeldCause → Nat
  | .halt => 0 | .hold => 1 | .trip => 2 | .heel => 3 | .restart => 4 | .ack => 5

def FaultCause.code : FaultCause → Nat
  | .stepTimeout => 0 | .stall => 1 | .overtravel => 2 | .positionSensor => 3 | .jackSensor => 4 | .valve => 5 | .junction => 6

/-- 0 to 5 HELD with that cause, 6 CLOSING, 7 none (R191). -/
def nextCode : Option NextState → Nat
  | some (.held c) => c.code
  | some .closing => 6
  | none => 7

def Cls.code : Cls → Nat
  | .urgent => 0 | .secure => 1 | .normal => 2

def Phase.code : Phase → Nat
  | .gated => 0 | .queued => 1 | .active => 2 | .shed => 3

def CleatVerdict.code : CleatVerdict → Nat
  | .engaged => 0 | .released => 1 | .moving => 2 | .sensorFault => 3 | .noSensor => 4 | .unverified => 5

def SecVerdict.code : SecVerdict → Nat
  | .secured => 0 | .securedReduced => 1 | .unsecured => 2 | .notClosed => 3 | .unverified => 4

def Service.code : Service → Nat
  | .inService => 0 | .handSet => 1 | .retired => 2

def Wanted.code : Wanted → Nat
  | .no => 0 | .waiting => 1 | .taken => 2

def HoldKind.code : HoldKind → Nat
  | .personnel => 0 | .loader => 1 | .crane => 2 | .lockout => 3 | .restart => 4

def holdKindOf : Nat → Option HoldKind
  | 0 => some .personnel
  | 1 => some .loader
  | 2 => some .crane
  | 3 => some .lockout
  | 4 => some .restart
  | _ => none

/-- 0 none, 1 PORT, 2 STBD (R189). -/
def panelCode : Option Panel → Nat
  | none => 0
  | some .port => 1
  | some .stbd => 2

def JackVerdict.code : JackVerdict → Nat
  | .lifted => 0 | .lowered => 1 | .between => 2 | .switchFault => 3 | .unverified => 4

def JunctionState.code : JunctionState → Nat
  | .online => 0 | .missing => 1 | .lost => 2

def PumpState.code : PumpState → Nat
  | .off => 0 | .starting => 1 | .running => 2 | .stopping => 3 | .tripped => 4 | .disabled => 5

/-- 0 none, 1 FAIL_TO_START, 2 RUN_LOST, 3 FAIL_TO_STOP (R189). -/
def tripCauseCode : Option TripCause → Nat
  | none => 0
  | some .failToStart => 1
  | some .runLost => 2
  | some .failToStop => 3

def channelOf : Nat → Option Channel
  | 0 => some .rollPort
  | 1 => some .rollStbd
  | 2 => some .jackPort
  | 3 => some .jackStbd
  | 4 => some .cleatPort
  | 5 => some .cleatStbd
  | 6 => some .cleatCross
  | _ => none

def dirOf : Nat → Option Dir
  | 0 => some .a
  | 1 => some .b
  | _ => none

def JogPhase.code : JogPhase → Nat
  | .queued => 0 | .active => 1 | .shed => 2 | .ending => 3

def ImageState.code : ImageState → Nat
  | .reading => 0 | .valid => 1 | .invalid => 2

def ResetCause.code : ResetCause → Nat
  | .powerOn => 0 | .resetN => 1

def Code.code : Code → Nat
  | .ok => 0 | .accepted => 1 | .merged => 2 | .notFound => 3 | .refusedAuthority => 4 | .unknownRequest => 5
  | .unknownItem => 6 | .badValue => 7 | .blocked => 8 | .busy => 9 | .already => 10 | .full => 11 | .countFull => 12
  | .notOwner => 13 | .manualFastened => 14 | .faulted => 15 | .tripped => 16 | .squallActive => 17 | .notReady => 18

/-- Bit `n` of the fault cause set stands for cause `n` (R189). -/
def withCause (set : BitVec 7) (c : FaultCause) : BitVec 7 := set ||| BitVec.ofNat 7 (2 ^ c.code)

/-! ### Numbers as bytes (R189: most significant byte first, two's complement) -/

def byteOf (n : Nat) : Byte := BitVec.ofNat 8 n

def bytes2 (n : Nat) : List Byte := [byteOf (n / 256), byteOf n]

def bytes4 (n : Nat) : List Byte := [byteOf (n / 16777216), byteOf (n / 65536), byteOf (n / 256), byteOf n]

/-- A signed number in two bytes. -/
def signed2 (v : Int) : List Byte := bytes2 (v % 65536).toNat

/-- The signed value of two bytes. -/
def ofSigned2 (n : Nat) : Int := if n < 32768 then (n : Int) else (n : Int) - 65536

/-- One bit in a byte: `k` is the weight of the bit. -/
def bit (b : Bool) (k : Nat) : Nat := if b then k else 0

/-- Eight bytes: those given, then 0 (R190: "the part sends 0 in each byte and bit that the frame does not use"). -/
def eightBytes (bs : List Byte) : Tbl 8 Byte := Tbl.build fun i => bs.getD i.val 0

/-! ### The operands of a request frame (R190) -/

/-- The number in byte `k`. -/
def RxFrame.byte (f : RxFrame) (k : Fin 8) : Nat := (f.data.get k).toNat

/-- The number in bytes `k` and `k + 1`. -/
def RxFrame.word (f : RxFrame) (k : Fin 7) : Nat := f.byte ⟨k.val, by omega⟩ * 256 + f.byte ⟨k.val + 1, by omega⟩

/-- The request kind, byte 0. -/
def RxFrame.kind (f : RxFrame) : Nat := f.byte 0

/-- The scope of PLACE_HOLD: bit h − 1 of bytes 3 and 4 for hatch Hh; bits 9 to 15 are ignored. -/
def RxFrame.scope (f : RxFrame) : BitVec 9 := BitVec.ofNat 9 (f.word 3)

/-- A hatch operand: H1 to H9 for 1 to 9. -/
def hatchOf (n : Nat) : Option Hatch := if h : 1 ≤ n ∧ n ≤ 9 then some ⟨n - 1, by omega⟩ else none

/-- The number of a hatch, 1 to 9. -/
def hatchNumber (h : Hatch) : Nat := h.val + 1

/-- A cleat id operand. -/
def cleatOf (n : Nat) : Option CleatId := if h : n < 288 then some ⟨n, h⟩ else none

/-- A pump set operand: P1 to P3 for 1 to 3. -/
def pumpOf (n : Nat) : Option PumpId := if h : 1 ≤ n ∧ n ≤ 3 then some ⟨n - 1, by omega⟩ else none

/-- The request kinds of R189. -/
def kindPresence : Nat := 1
def kindLook : Nat := 2
def kindFind : Nat := 3
def kindMove : Nat := 4
def kindHalt : Nat := 5
def kindAckFault : Nat := 6
def kindPlaceHold : Nat := 7
def kindLiftHold : Nat := 8
def kindConfirmCleat : Nat := 9
def kindSetService : Nat := 10
def kindSquall : Nat := 11
def kindCancelSquall : Nat := 12
def kindAckTrip : Nat := 13
def kindAckPump : Nat := 14
def kindJog : Nat := 15
def kindSetParam : Nat := 16

/-- Whether a request kind is one of the 16 (R164). -/
def kindKnown (k : Nat) : Bool := decide (1 ≤ k) && decide (k ≤ 16)

end Sys2Proof.Machine
end

