-- ==== Sys2Proof/Machine/Flags.lean ====
section
/-!
DEFINITION. Machine/Flags.lean: every flag, line, band and computed quantity that the manual defines from other state:
bands (R48), S, d and A (R93 to R95), relays and driver outputs (R110, R120), the alarms and the two output lines
(R8, R19, R175), marks and the blocked flag (R80, R146), the securing verdict (R16, R17).
-/

namespace Sys2Proof.Machine
open Sys2Proof

/-! ### Configuration in force -/

/-- "The configuration image is invalid" holds while the image is READING or INVALID (R176). -/
def State.imageValid (s : State) : Bool := s.store.image = .valid

/-- The image the blocks act on: the copy while it is VALID; the defaults otherwise, since the blocks do not read the
copy then (R176; assumption log 6). -/
def State.params (s : State) : Image := if s.imageValid then s.store.copy else Image.default

/-! ### Analog values (R140, R143) -/

/-- The value a consumer may use: none while the channel is faulted or has no value. -/
def AnalogRec.reading (r : AnalogRec) : Option Int := if r.fault then none else r.value

/-- Whether |heel| is valid and within a bound. -/
def heelWithin (s : State) (bound : Int) : Bool :=
  match s.analog.heel.reading with
  | some v => decide ((v.natAbs : Int) ≤ bound)
  | none => false

/-- The heel holds a ROLL step GATED: faulted, no value, or beyond the heel limit (R54). -/
def heelGates (s : State) : Bool := !heelWithin s s.params.heelLimit

/-- The heel stops an ACTIVE ROLL step: faulted, no value, or beyond the limit plus the margin (R67, R143). -/
def heelStops (s : State) : Bool := !heelWithin s (s.params.heelLimit + s.params.heelMargin)

/-- The wind holds every panel to creep: above the wind limit, faulted, or no value (R63). -/
def windCreeps (s : State) : Bool :=
  match s.analog.wind.reading with
  | some v => decide (s.params.windLimit < v)
  | none => true

/-! ### Panels (R48) -/

def State.panel (s : State) (h : Hatch) (p : Panel) : PanelSense := (s.junctions.get h).panels.get p

/-- The panel lies in the closed band. -/
def inClosedBand (s : State) (h : Hatch) (p : Panel) : Bool :=
  match (s.panel h p).position with
  | some x => decide (x ≤ s.params.band)
  | none => false

/-- The panel is stowed. -/
def isStowed (s : State) (h : Hatch) (p : Panel) : Bool :=
  match (s.panel h p).position with
  | some x => decide (s.params.stow h ≤ x + s.params.band)
  | none => false

/-- The panel lies at or beyond the overtravel limit, its stow length plus 100 mm (R69). -/
def beyondStow (s : State) (h : Hatch) (p : Panel) : Bool :=
  match (s.panel h p).position with
  | some x => decide (s.params.stow h + 100 ≤ x)
  | none => false

/-- The panel lies in the slow zone toward which it travels; `outward` for ROLL_OUT. -/
def inSlowZone (s : State) (h : Hatch) (p : Panel) (outward : Bool) : Bool :=
  match (s.panel h p).position with
  | some x => if outward then decide (s.params.stow h ≤ x + s.params.slow) else decide (x ≤ s.params.slow)
  | none => false

def bothClosed (s : State) (h : Hatch) : Bool := inClosedBand s h .port && inClosedBand s h .stbd

def bothStowed (s : State) (h : Hatch) : Bool := isStowed s h .port && isStowed s h .stbd

/-- Either panel lies at or beyond the overtravel limit (R69). -/
def anyBeyondStow (s : State) (h : Hatch) : Bool := beyondStow s h .port || beyondStow s h .stbd

def bothJacks (s : State) (h : Hatch) (v : JackVerdict) : Bool :=
  (s.junctions.get h).panels.both fun p => p.jack = v

/-- Whether the sensing of a junction record is usable: not LOST, both positions valid, neither jack verdict UNVERIFIED
nor SWITCH_FAULT (R73, row 3; R149). -/
def Junction.usable (j : Junction) : Bool :=
  j.state != .lost && j.panels.both fun p => p.position.isSome && p.jack != .unverified && p.jack != .switchFault

def sensingUsable (s : State) (h : Hatch) : Bool := (s.junctions.get h).usable

/-- The conditions of R51 on the junction record. -/
def Junction.derivable (j : Junction) : Bool :=
  j.state = .online && j.panels.both fun p => p.position.isSome && p.jack != .unverified

/-! ### Trips, relays, driver outputs -/

/-- A hatch is tripped while its own latch or the ESTOP latch is set (R125). -/
def State.tripped (s : State) (h : Hatch) : Bool := s.stops.latch.get h || s.stops.estopLatch

/-- The VSUP relay of a hatch is OFF in reset (R187), while the hatch is UNKNOWN or its cut flag is set; ON otherwise (R120). -/
def State.vsupOn (s : State) (h : Hatch) : Bool :=
  !s.inReset && (s.hatches.get h).state != .unknown && !s.drive.cut.get h

def State.channel (s : State) (h : Hatch) (c : Channel) : ChannelRec := (s.drive.channels.get h).get c

/-- The direction a channel energises: its working direction while its applied command is above 0 (R109). -/
def ChannelRec.energised (c : ChannelRec) : Option Dir := if 0 < c.applied then c.working else none

/-- The direction output of a channel's driver (R110, R187). -/
def State.driverDir (s : State) (h : Hatch) (c : Channel) : Option Dir :=
  if s.inReset then none else (s.channel h c).energised

/-- The duty of an applied command (R110): with the offset for a proportional channel, the command itself for an on/off one. -/
def dutyOf (offset : Nat) (proportional : Bool) (applied : Nat) : Nat :=
  if applied = 0 then 0
  else if proportional then offset + applied * (1000 - offset) / 1000
  else applied

/-- The duty output of a channel's driver (R110, R187). -/
def State.driverDuty (s : State) (h : Hatch) (c : Channel) : Nat := if s.inReset then 0 else (s.channel h c).duty

/-- All seven channels of the hatch stand at applied 0 (R60). -/
def channelsAtRest (s : State) (h : Hatch) : Bool := allChannels.all fun c => (s.channel h c).applied = 0

/-- A channel is held at rest while its hatch is tripped, its VSUP is off or its coil fault flag is set (R115). -/
def channelHeld (s : State) (h : Hatch) (c : Channel) : Bool :=
  s.tripped h || !s.vsupOn h || (s.channel h c).coilFault

/-- The start line of a pump set is on in STARTING and RUNNING (R81), and off in reset (R187). -/
def State.startLine (s : State) (k : PumpId) : Bool :=
  !s.inReset && ((s.supply.pumps.get k).state = .starting || (s.supply.pumps.get k).state = .running)

/-! ### Supply (R93 to R95) -/

/-- S: the rated flows of the RUNNING pump sets. -/
def supplyS (pumps : Tbl 3 Pump) : Nat :=
  (pumps.items.map fun p => if p.state = .running then p.rated else 0).sum

/-- d: the derate (R94). -/
def derate (s : State) : Nat :=
  match s.analog.temperature.reading with
  | none => 500
  | some t =>
    if t ≤ s.params.tCold then 500
    else if s.params.tWarm ≤ t then 1000
    else 500 + 500 * (t - s.params.tCold).toNat / (s.params.tWarm - s.params.tCold).toNat

/-- A for a given sum of rated flows (R95). -/
def availableFor (s : State) (sum : Nat) : Nat :=
  if s.supply.lowPressure || s.supply.overtemp || !s.imageValid then 0
  else sum * derate s / 1000 - s.params.reserve

/-- A as R95 computes it now. -/
def availableNow (s : State) : Nat := availableFor s (supplyS s.supply.pumps)

/-- Whether any pump set is in a state. -/
def anyPump (s : State) (st : PumpState) : Bool := s.supply.pumps.items.any fun p => p.state = st

/-- The highest-numbered RUNNING pump set (R88). -/
def highestRunning (s : State) : Option PumpId :=
  [(2 : PumpId), 1, 0].find? fun k => (s.supply.pumps.get k).state = .running

/-- The lowest-numbered OFF pump set (R86). -/
def lowestOff (s : State) : Option PumpId :=
  [(0 : PumpId), 1, 2].find? fun k => (s.supply.pumps.get k).state = .off

/-- The sum of N over both collections (R88). -/
def demandN (a : Arbiter) : Nat := (a.pending.map (·.n)).sum + (a.granted.map (·.entry.n)).sum

/-- Both collections are empty. -/
def Arbiter.isEmpty (a : Arbiter) : Bool := a.pending.isEmpty && a.granted.isEmpty

/-- The pump set that the one-pump reduction would stop, while its condition holds (R88). -/
def reductionFor (s : State) : Option PumpId :=
  match highestRunning s with
  | none => none
  | some k =>
    let a := availableFor s (supplyS s.supply.pumps - (s.supply.pumps.get k).rated)
    if !s.arbiter.isEmpty && decide (demandN s.arbiter ≤ a) then some k else none

/-- The low timer counts: a set RUNNING with run age 5.0 s, and a usable pressure below the low limit (R91). -/
def lowCounts (s : State) : Bool :=
  (s.supply.pumps.items.any fun p => decide (p.state = .running) && decide (p.age = 50)) &&
  match s.analog.pressure.reading with
  | some v => decide (v < s.params.lowLimit)
  | none => false

/-- The recovery timer counts: LOW_PRESSURE set and a usable pressure at least the low limit plus 5.0 bar (R91). -/
def recoveryCounts (s : State) : Bool :=
  s.supply.lowPressure &&
  match s.analog.pressure.reading with
  | some v => decide (s.params.lowLimit + 50 ≤ v)
  | none => false

/-! ### Holds, marks -/

/-- The scope of an entry contains a hatch (R27). -/
def HoldEntry.covers (e : HoldEntry) (h : Hatch) : Bool := e.scope.getLsbD h.val

/-- RETENTION_LOST: a RESTART entry is present (R26). -/
def State.retentionLost (s : State) : Bool := s.holds.entries.any fun e => e.kind = .restart

/-- The blocked flag of a hatch (R80). -/
def State.blockedFlag (s : State) (h : Hatch) : Bool := s.holds.entries.any fun e => e.covers h

/-- SQUALL_ACTIVE: at least one hatch carries a mark (R146). -/
def State.squallActive (s : State) : Bool := s.hatches.items.any (·.mark)

/-- A jog is in progress on the hatch (R121). -/
def jogOn (s : State) (h : Hatch) : Bool :=
  match s.drive.jog with
  | some j => j.hatch = h
  | none => false

/-! ### Cleats (R11, R16, R17, R22) -/

/-- The mark a cleat record gives the confirmation: confirmed FASTENED. -/
def CleatRec.isFastened (r : CleatRec) : Bool :=
  match r.confirmation with
  | some c => c.fastened
  | none => false

/-- IN_SERVICE and HYDRAULIC. -/
def CleatRec.isHydraulic (r : CleatRec) : Bool := r.service = .inService && !r.manual

/-- IN_SERVICE MANUAL or HAND_SET: counted by confirmation. -/
def CleatRec.byHand (r : CleatRec) : Bool := (r.service = .inService && r.manual) || r.service = .handSet

/-- A counted cleat: IN_SERVICE or HAND_SET (R2). -/
def CleatRec.counted (r : CleatRec) : Bool := r.service != .retired

/-- The mismatch of a cleat (R11). -/
def CleatRec.mismatch (r : CleatRec) : Bool :=
  r.byHand && r.sensor && (if r.isFastened then r.verdict != .engaged else r.verdict = .engaged)

/-- A counted cleat passes step 3 of R16. -/
def CleatRec.passes (r : CleatRec) : Bool :=
  if r.isHydraulic then r.verdict = .engaged else r.isFastened && !r.mismatch

/-- The records of a hatch that are not ABSENT, with their ids, in id order. -/
def hatchRecords (s : State) (h : Hatch) : List (CleatId × CleatRec) :=
  (hatchCleats h).filterMap fun id => (s.table.slots.get id).map (Prod.mk id)

/-- The number of RETIRED records of a hatch (R16). -/
def retiredCount (s : State) (h : Hatch) : Nat := ((hatchRecords s h).filter fun r => r.2.service = .retired).length

/-- A panel passes step 3 of R16. -/
def panelPasses (s : State) (h : Hatch) (p : Panel) : Bool := (s.panel h p).jack = .lowered && inClosedBand s h p

/-- The lowest-numbered counted cleat that fails step 3 of R16. -/
def firstFailing (s : State) (h : Hatch) : Option CleatId :=
  ((hatchRecords s h).find? fun r => r.2.counted && !r.2.passes).map (·.1)

/-- Step 1 of R16. -/
def judgedUnverified (s : State) (h : Hatch) : Bool :=
  (s.hatches.get h).state = .unknown || (s.junctions.get h).state = .lost ||
  ((s.junctions.get h).panels.either fun p => p.position.isNone || p.jack = .unverified) ||
  (hatchRecords s h).any fun r => r.2.counted && r.2.sensor && r.2.verdict = .unverified

/-- The securing verdict of a hatch with its reason, as R16 and R17 decide them. -/
def judge (s : State) (h : Hatch) : SecVerdict × Option Reason :=
  if judgedUnverified s h then (.unverified, none)
  else if (s.hatches.get h).state != .closed then (.notClosed, none)
  else if !panelPasses s h .port then (.unsecured, some .panelPort)
  else if !panelPasses s h .stbd then (.unsecured, some .panelStbd)
  else match firstFailing s h with
    | some id => (.unsecured, some (.cleat id))
    | none =>
      if retiredCount s h = 0 then (.secured, none)
      else if retiredCount s h ≤ s.params.allowance h then (.securedReduced, none)
      else (.unsecured, some .retiredExcess)

/-- SECURED or SECURED_REDUCED. -/
def SecVerdict.isSecured (v : SecVerdict) : Bool := v = .secured || v = .securedReduced

/-- The groups of a hatch that hold a wanted cleat: the reclamp set (R154). -/
def reclampSet (s : State) (h : Hatch) : Groups :=
  let wantedIn (g : Group) : Bool := (hatchRecords s h).any fun r => r.2.wanted != .no && decide (cleatGroup r.1 = g)
  ⟨wantedIn .port, wantedIn .stbd, wantedIn .cross⟩

def Groups.isEmpty (g : Groups) : Bool := !g.port && !g.stbd && !g.cross

/-- Every IN_SERVICE HYDRAULIC cleat of the hatch has this verdict (R52). -/
def allHydraulic (s : State) (h : Hatch) (v : CleatVerdict) : Bool :=
  (hatchRecords s h).all fun r => !r.2.isHydraulic || r.2.verdict = v

/-! ### Alarms and output lines -/

/-- The cleat alarm of a hatch (R8). -/
def State.cleatAlarm (s : State) (h : Hatch) : Bool :=
  (s.hatches.get h).state = .closed &&
  (hatchRecords s h).any fun r => r.2.counted && (r.2.lost || r.2.verdict = .sensorFault)

/-- The ALL_SECURED line (R19, R187). -/
def State.allSecured (s : State) : Bool := !s.inReset && s.table.verdict.items.all SecVerdict.isSecured

/-- The ALARM line (R175, R187). -/
def State.alarm (s : State) : Bool :=
  s.inReset ||
  (s.hatches.items.any fun c => c.state = .fault) ||
  s.stops.estopLatch || s.stops.latch.items.any id ||
  anyPump s .tripped ||
  s.supply.lowPressureSeen || s.supply.overtempSeen ||
  s.retentionLost ||
  (s.junctions.items.any fun j => j.state = .lost) ||
  s.analog.pressure.fault || s.analog.temperature.fault || s.analog.heel.fault || s.analog.wind.fault ||
  allHatches.any s.cleatAlarm

/-- The ten trip latches as the ship frame carries them: ESTOP in bit 0, hatch h in bit h (R192). -/
def latchBits (s : State) : Nat :=
  bit s.stops.estopLatch 1 + (allHatches.map fun h => bit (s.stops.latch.get h) (2 ^ (h.val + 1))).sum

/-- The four supply flags as one byte (R190). -/
def supplyFlags (s : State) : Nat :=
  bit s.supply.lowPressure 1 + bit s.supply.lowPressureSeen 2 + bit s.supply.overtemp 4 + bit s.supply.overtempSeen 8

end Sys2Proof.Machine
end

