-- ==== Sys2Proof/Machine/Ops.lean ====
section
/-!
DEFINITION. Machine/Ops.lean: the named operations over the records that every block uses: replacing one record,
handing on within an event, the retention write list (R185), the answers (R164, R190), the blocking question (R30 to
R32), the recompute of a securing verdict (R18) and the reclamp events of a cleat record (R15).
-/

namespace Sys2Proof.Machine
open Sys2Proof

/-! ### Replacing one record -/

def State.ctx (s : State) (h : Hatch) : HatchCtx := s.hatches.get h

def State.setCtx (s : State) (h : Hatch) (c : HatchCtx) : State := { s with hatches := s.hatches.set h c }

def State.updCtx (s : State) (h : Hatch) (f : HatchCtx → HatchCtx) : State := s.setCtx h (f (s.ctx h))

def State.setChannel (s : State) (h : Hatch) (c : Channel) (r : ChannelRec) : State :=
  { s with drive := { s.drive with channels := s.drive.channels.upd h (·.set c r) } }

def State.updChannels (s : State) (h : Hatch) (f : Channel → ChannelRec → ChannelRec) : State :=
  { s with drive := { s.drive with channels := s.drive.channels.upd h (·.map f) } }

def State.setJog (s : State) (j : Option Jog) : State := { s with drive := { s.drive with jog := j } }

def State.pump (s : State) (k : PumpId) : Pump := s.supply.pumps.get k

def State.setPump (s : State) (k : PumpId) (p : Pump) : State :=
  { s with supply := { s.supply with pumps := s.supply.pumps.set k p } }

def State.setJunction (s : State) (h : Hatch) (j : Junction) : State := { s with junctions := s.junctions.set h j }

def State.slot (s : State) (id : CleatId) : Option CleatRec := s.table.slots.get id

def State.setSlot (s : State) (id : CleatId) (r : Option CleatRec) : State :=
  { s with table := { s.table with slots := s.table.slots.set id r } }

def State.station (s : State) (n : StationId) : Station := s.link.stations.get n

def State.setStation (s : State) (n : StationId) (r : Station) : State :=
  { s with link := { s.link with stations := s.link.stations.set n r } }

/-- Hands on within the present event: the tasks are taken before those already waiting, first to last. -/
def State.push (s : State) (ts : List Task) : State := { s with agenda := ts ++ s.agenda }

/-! ### Retention write list (R185) -/

/-- The kept fields of a slot (R24). -/
def keptOf : Option CleatRec → Kept
  | none => ⟨none, none, none, 0⟩
  | some r => ⟨some r.service, r.confirmation, r.retirement, r.faultCount⟩

/-- A hold entry as the retention memory holds it: without its state (R45). -/
def HoldEntry.kept (e : HoldEntry) : HoldEntry := { e with stale := false }

/-- The write of an item with its record as it stands now. -/
def retWriteOf (s : State) : RetItem → RetWrite
  | .holds => .holds (s.holds.entries.map HoldEntry.kept) s.holds.counter
  | .cleat id => .cleat id (keptOf (s.slot id))

/-- A change of a kept record waits for its write: it joins a write that waits, or adds one at the tail; a write begins
at once when none is under way (R185). -/
def retain (s : State) (i : RetItem) : State :=
  match s.retention.underWay with
  | none => { s with retention := { s.retention with underWay := some (retWriteOf s i) } }
  | some _ =>
    if s.retention.waiting.contains i then s
    else { s with retention := { s.retention with waiting := s.retention.waiting ++ [i] } }

/-! ### Answers (R164, R166, R190) -/

/-- The answer frame to a request: kind, tag, code and up to five data bytes (R190). -/
def answerFrame (f : RxFrame) (code : Code) (data : List Byte) : TxFrame :=
  ⟨0x280 + f.station.val, eightBytes ([f.data.get 0, f.data.get 1, byteOf code.code] ++ data)⟩

/-- Whether a frame of the transmit list is an answer (R166). -/
def TxFrame.isAnswer (t : TxFrame) : Bool := decide (0x280 ≤ t.ident) && decide (t.ident ≤ 0x28D)

/-- The frame joins the tail of the transmit list. -/
def send (s : State) (t : TxFrame) : State := { s with link := { s.link with tx := s.link.tx ++ [t] } }

/-- The answer to a request joins the transmit list (R164). -/
def reply (s : State) (f : RxFrame) (code : Code) (data : List Byte := []) : State := send s (answerFrame f code data)

/-- The number of answers the list holds plus the outstanding SET_PARAMs (R167). -/
def answersHeld (s : State) : Nat :=
  (s.link.tx.filter TxFrame.isAnswer).length + (s.link.stations.items.filter fun r => r.outstanding.isSome).length

/-- The transmit list can take one more answer (R167). -/
def canTake (s : State) : Bool := decide (answersHeld s < 16)

/-! ### The blocking question (R30 to R32) -/

/-- The three kinds of motion (Chapter 2, section 2.2). -/
inductive MotionKind where
  | cleat | jack | roll
  deriving DecidableEq, Repr

/-- The motion kind of a step (R30). -/
def stepMotion : StepName → MotionKind
  | .release | .engage | .reclamp => .cleat
  | .lift | .park | .unpark | .lower => .jack
  | .rollOut | .rollIn => .roll

/-- The motion kind of a jog of a channel (R30). -/
def jogMotion : Channel → MotionKind
  | .cleatPort | .cleatStbd | .cleatCross => .cleat
  | .jackPort | .jackStbd => .jack
  | .rollPort | .rollStbd => .roll

/-- Which kinds of entry block which kinds of motion (the table of R30). -/
def HoldKind.blocks : HoldKind → MotionKind → Bool
  | .personnel, _ | .lockout, _ | .restart, _ => true
  | .loader, .cleat => false
  | .loader, _ => true
  | .crane, .roll => true
  | .crane, _ => false

/-- Whether a step or jog moves a panel (R31). -/
def Demand.moves : Demand → Panel → Bool
  | .step _, _ => true
  | .jog .rollPort, p | .jog .jackPort, p | .jog .cleatPort, p => p = .port
  | .jog .rollStbd, p | .jog .jackStbd, p | .jog .cleatStbd, p => p = .stbd
  | .jog .cleatCross, _ => true

/-- The motion kind of a step or jog. -/
def Demand.motion : Demand → MotionKind
  | .step t => stepMotion t
  | .jog c => jogMotion c

/-- A jog: every jog is ordered by the SERVICE station (R121). -/
def Demand.isJog : Demand → Bool
  | .step _ => false
  | .jog _ => true

/-- Whether an entry blocks a motion on a hatch (R30, R31), with the exception of a LOCKOUT of the SERVICE station for
a jog. -/
def HoldEntry.blocks (e : HoldEntry) (h : Hatch) (d : Demand) : Bool :=
  e.covers h && e.kind.blocks d.motion &&
  (match e.panel with
    | none => true
    | some p => d.moves p) &&
  !(d.isJog && e.kind = .lockout && e.owner = serviceStation)

/-- The blocking question: the id of the blocking entry nearest the head of the list, or none for CLEAR (R32). -/
def blockedBy (s : State) (h : Hatch) (d : Demand) : Option Nat :=
  (s.holds.entries.find? fun e => e.blocks h d).map (·.id)

def isBlocked (s : State) (h : Hatch) (d : Demand) : Bool := (blockedBy s h d).isSome

/-! ### The start step (R62) -/

/-- The start step for closing. -/
def closingStart (s : State) (h : Hatch) : StepName :=
  if bothClosed s h then (if bothJacks s h .lowered then .engage else .lower)
  else (if bothJacks s h .lifted then .rollIn else .unpark)

/-- The start step for opening; none where the hatch already stands at the end of the opening sequence. -/
def openingStart (s : State) (h : Hatch) : Option StepName :=
  if bothStowed s h then (if bothJacks s h .lowered then none else some .park)
  else if !allHydraulic s h .released then some .release
  else if bothJacks s h .lifted then some .rollOut
  else some .lift

/-! ### Taking a request from the receive FIFO (R164) -/

/-- The data of the answers whose layout does not depend on the code (R190): MOVE, HALT and ACK_FAULT carry the hatch
and its state, ACK_TRIP its number and latch, ACK_PUMP its number and state or the flags; a number that names no hatch, latch
or pump set has no state, and the bytes for it are 0. `code` decides whether a trip cause is given (R85); `extra` is the start
step of a MOVE or the count of a HALT ALL. -/
def standingData (s : State) (f : RxFrame) (code : Code) (extra : Nat) : List Byte :=
  let n := f.byte 2
  if f.kind = kindMove || f.kind = kindHalt || f.kind = kindAckFault then
    if f.kind = kindHalt && n = 0 then [byteOf 0, byteOf extra]
    else match hatchOf n with
      | some h => [byteOf n, byteOf (s.ctx h).state.code, byteOf extra]
      | none => [byteOf n]
  else if f.kind = kindAckTrip then
    if n = 0 then [byteOf 0, byteOf (bit s.stops.estopLatch 1)]
    else match hatchOf n with
      | some h => [byteOf n, byteOf (bit (s.stops.latch.get h) 1), byteOf (bit s.stops.estopLatch 1)]
      | none => [byteOf n]
  else if f.kind = kindAckPump then
    if n = 0 then [byteOf 0, byteOf (supplyFlags s)]
    else match pumpOf n with
      | some k =>
        let cause := if code = .notReady || code = .already then tripCauseCode (s.pump k).cause else 0
        [byteOf n, byteOf (s.pump k).state.code, byteOf cause]
      | none => []
  else []

/-- The answer whose data are the records after the event (R73, R75, R77, R85, R127, R190). -/
def replyStanding (s : State) (f : RxFrame) (code : Code) (extra : Nat) : State :=
  reply s f code (standingData s f code extra)

/-- The frame a taking takes: the head of the FIFO, when the transmit list can take one more answer (R164). -/
def takeable (s : State) : Option RxFrame :=
  if s.inReset || !canTake s then none else s.link.rx.head?

/-- The FIFO less its head (R164). -/
def popped (s : State) : State := { s with link := { s.link with rx := s.link.rx.tail } }

/-- Takes the frame at the head of the FIFO when it is the one the command names: row 2 of R164 answers BUSY to a
station with an outstanding request, and any other request goes to its owner. Where no such frame stands at the head or
it cannot be taken, the command does not occur and the part stays as it is (assumption log 5). -/
def taking (isIt : RxFrame → Bool) (owner : RxFrame → State → State) (s : State) : State :=
  match takeable s with
  | none => s
  | some f =>
    if !isIt f then s
    else if ((popped s).station f.station).outstanding.isSome then replyStanding (popped s) f .busy 0
    else owner f (popped s)

/-- A frame of one request kind. -/
def ofKind (k : Nat) (f : RxFrame) : Bool := decide (f.kind = k)

/-! ### Securing verdicts (R18) -/

/-- The table class of a step (R52). -/
def tableClass : StepName → Cls
  | .lower | .engage | .reclamp => .secure
  | .release | .lift | .rollOut | .park | .unpark | .rollIn => .normal

/-- The class the Sequencer holds for a step of a hatch (R47). -/
def classFor (c : HatchCtx) (t : StepName) : Cls := if c.mark then .urgent else tableClass t

def clsRank : Cls → Nat
  | .urgent => 0
  | .secure => 1
  | .normal => 2

/-- The order of the pending list: class first, arrival sequence within a class (R98). -/
def Entry.before (a b : Entry) : Bool :=
  decide (clsRank a.cls < clsRank b.cls) || (decide (clsRank a.cls = clsRank b.cls) && decide (a.arrival < b.arrival))

/-- The entry at its place in the pending list (R98). -/
def insertEntry (e : Entry) : List Entry → List Entry
  | [] => [e]
  | x :: xs => if e.before x then e :: x :: xs else x :: insertEntry e xs

/-- The hatch has an entry in either collection (R96). -/
def Arbiter.has (a : Arbiter) (h : Hatch) : Bool :=
  (a.pending.any fun e => e.hatch = h) || (a.granted.any fun g => g.entry.hatch = h)

/-- A class change (R99): a pending entry moves to its place among its new class, a granted one keeps its place. -/
def Arbiter.changeClass (a : Arbiter) (h : Hatch) (c : Cls) : Arbiter :=
  { a with
    pending := match a.pending.find? (fun e => e.hatch = h) with
      | some e => insertEntry { e with cls := c } (a.pending.filter fun x => x.hatch != h)
      | none => a.pending
    granted := a.granted.map fun g => if g.entry.hatch = h then { g with entry := { g.entry with cls := c } } else g }

/-- The class that the entry of a hatch has (R96). -/
def Arbiter.classOf (a : Arbiter) (h : Hatch) : Option Cls :=
  ((a.pending.find? fun e => e.hatch = h).map (·.cls)).or ((a.granted.find? fun g => g.entry.hatch = h).map (·.entry.cls))

/-- The class change of a hatch's current step when its mark changes; the new class is handed to the Arbiter (R146, R99). -/
def reclass (s : State) (h : Hatch) : State :=
  match (s.ctx h).step with
  | none => s
  | some t =>
    let c := classFor (s.ctx h) t.name
    if t.cls = c then s
    else (s.updCtx h fun x => { x with step := some { t with cls := c } }).push [.reclass h]

/-- A hatch's mark clears (R151); a RECLAMP may now be requested (R155). -/
def clearMark (s : State) (h : Hatch) : State :=
  if (s.ctx h).mark then
    reclass ((s.updCtx h fun x => { x with mark := false }).push [.reclampTest h]) h
  else s

/-- The securing verdict of a hatch is recomputed; a change into SECURED or SECURED_REDUCED clears the squall mark of
the hatch (R18, R151). -/
def rejudge (s : State) (h : Hatch) : State :=
  let v := judge s h
  if v.1 = s.table.verdict.get h && v.2 = s.table.reason.get h then s
  else
    let changed := v.1 != s.table.verdict.get h
    let s := { s with table := { s.table with
      verdict := s.table.verdict.set h v.1
      reason := s.table.reason.set h v.2 } }
    if changed && v.1.isSecured then clearMark s h else s

/-- The verdicts of all nine hatches are recomputed; what they hand on is taken for H1 first (assumption log 8). -/
def rejudgeAll (s : State) : State := allHatches.foldr (fun h s => rejudge s h) s

/-! ### Reclamp events (R15) -/

/-- An event from the Sequencer changes the IN_SERVICE HYDRAULIC records of a hatch and leaves the others (R15). -/
def reclampEvent (s : State) (h : Hatch) (f : CleatRec → CleatRec) : State :=
  { s with table := { s.table with
    slots := Tbl.build fun id =>
      if cleatHatch id = h then
        (s.slot id).map fun r => if r.isHydraulic then f r else r
      else s.slot id } }

/-- reclamp started -/
def CleatRec.reclampStarted (r : CleatRec) : CleatRec :=
  if r.wanted = .waiting then { r with wanted := .taken, tries := min 3 (r.tries + 1) } else r

/-- reclamp done -/
def CleatRec.reclampDone (r : CleatRec) : CleatRec := if r.wanted = .taken then { r with wanted := .no } else r

/-- reclamp timed out -/
def CleatRec.reclampTimedOut (r : CleatRec) : CleatRec :=
  if r.wanted = .taken then { r with wanted := .no, lost := r.lost || r.verdict != .engaged } else r

/-- reclamp withdrawn, kept -/
def CleatRec.reclampKept (r : CleatRec) : CleatRec := if r.wanted = .taken then { r with wanted := .waiting } else r

/-- reclamp abandoned -/
def CleatRec.reclampAbandoned (r : CleatRec) : CleatRec :=
  if r.wanted != .no then { r with wanted := .no, lost := true } else r

/-- wanted cleared -/
def CleatRec.wantedCleared (r : CleatRec) : CleatRec := { r with wanted := .no }

/-- tries reset -/
def CleatRec.triesReset (r : CleatRec) : CleatRec := { r with tries := 0 }

end Sys2Proof.Machine
end

