-- ==== Sys2Proof/Machine/Flow.lean ====
section
/-!
DEFINITION. Machine/Flow.lean: the Flow Arbiter and the pump sets (Chapter 4): joining and leaving the collections
(R96 to R99), the allocation (R100 to R107), start and stop requests (R82, R83, R86), and the recompute of A (R91, R95).
-/

namespace Sys2Proof.Machine
open Sys2Proof

/-! ### The allocation on the collections (R101 to R103) -/

/-- The collections while an allocation runs, with the hatches it has shed, in order. -/
structure Alloc where
  pending : List Entry
  granted : List Granted
  shedNow : List Hatch
  deriving DecidableEq, Repr

/-- The sum of M over the granted set. -/
def sumM (g : List Granted) : Nat := (g.map (·.entry.m)).sum

/-- The most recent grant of a class. -/
def newestOf (g : List Granted) (c : Cls) : Option Granted := g.reverse.find? fun x => x.entry.cls = c

/-- The grant that capacity shedding takes: of the lowest class present, the most recent (R101). -/
def victim (g : List Granted) : Option Granted :=
  (newestOf g .normal).or ((newestOf g .secure).or (newestOf g .urgent))

/-- One granted entry is shed: it drops its share and rejoins the pending list at its place (R101). -/
def Alloc.shedOne (a : Alloc) (g : Granted) : Alloc where
  pending := insertEntry { g.entry with shed := true } a.pending
  granted := a.granted.filter fun x => x.entry.hatch != g.entry.hatch
  shedNow := a.shedNow ++ [g.entry.hatch]

/-- Capacity shedding, at most `k` entries (R101). -/
def capacityShed (avail : Nat) : Nat → Alloc → Alloc
  | 0, a => a
  | k + 1, a =>
    if sumM a.granted ≤ avail then a
    else match victim a.granted with
      | none => a
      | some g => capacityShed avail k (a.shedOne g)

/-- Whether an entry fits beside the granted set (R102). -/
def Alloc.fits (a : Alloc) (avail : Nat) (e : Entry) : Bool := decide (sumM a.granted + e.m ≤ avail)

/-- URGENT pre-emption: NORMAL grants are shed, the most recent first, until the entry fits or none remains (R103). -/
def preempt (avail : Nat) (e : Entry) : Nat → Alloc → Alloc
  | 0, a => a
  | k + 1, a =>
    if a.fits avail e then a
    else match newestOf a.granted .normal with
      | none => a
      | some g => preempt avail e k (a.shedOne g)

/-- An entry is granted as the newest member of the granted set (R102); its share is computed at the end. -/
def Alloc.grantOne (a : Alloc) (e : Entry) : Alloc :=
  { a with
    pending := a.pending.filter fun x => x.hatch != e.hatch
    granted := a.granted ++ [⟨{ e with shed := false }, ⟨e.m, none⟩⟩] }

/-- The grant scan from the head of the pending list; it answers the blocked head it stops on (R102, R103). -/
def grantScan (avail : Nat) : Nat → Alloc → Alloc × Option Entry
  | 0, a => (a, none)
  | k + 1, a =>
    match a.pending with
    | [] => (a, none)
    | e :: _ =>
      if a.shedNow.contains e.hatch then (a, some e)
      else if a.fits avail e then grantScan avail k (a.grantOne e)
      else if e.cls = .urgent then
        let b := preempt avail e a.granted.length a
        if b.fits avail e then grantScan avail k (b.grantOne e) else (b, some e)
      else (a, some e)

/-- The sum over the granted set of N less M (R105). -/
def sumE (g : List Granted) : Nat := (g.map fun x => x.entry.n - x.entry.m).sum

/-- The share of an entry of the granted set (R105). -/
def shareOf (avail : Nat) (g : List Granted) (e : Entry) : Nat :=
  let u := avail - sumM g
  let ex := sumE g
  if ex = 0 then e.m
  else if ex ≤ u then e.n
  else e.m + u * (e.n - e.m) / ex

/-- The roll command of a granted ROLL step; none for another entry (R106). -/
def rollOf (e : Entry) (share : Nat) : Option Nat :=
  match e.demand with
  | .step .rollOut | .step .rollIn => some (1000 * share / e.n)
  | _ => none

/-- The granted set with its shares and roll commands (R105, R106). -/
def withShares (avail : Nat) (g : List Granted) : List Granted :=
  g.map fun x =>
    let share := shareOf avail g x.entry
    { x with grant := ⟨share, rollOf x.entry share⟩ }

/-- The hand-off of one entry's change (R107). -/
def handOff (old : List Granted) (x : Granted) : List Task :=
  match old.find? (fun o => o.entry.hatch = x.entry.hatch) with
  | none =>
    match x.entry.demand with
    | .step _ => [.grant x.entry.hatch x.grant]
    | .jog _ => [.jogGrant]
  | some o =>
    match x.entry.demand with
    | .step _ => if o.grant = x.grant then [] else [.reshare x.entry.hatch x.grant]
    | .jog _ => []

/-- The hand-off of a shed entry (R107). -/
def shedOff (old : List Granted) (h : Hatch) : List Task :=
  match old.find? (fun o => o.entry.hatch = h) with
  | some o =>
    match o.entry.demand with
    | .step _ => [.shed h]
    | .jog _ => [.jogShed]
  | none => []

/-- What a hand-off can lead to at its receiver: a newly granted step meets its sensing, the heel and its done condition. -/
def afterHandOff : Task → List Task
  | .grant h _ => [.activated h]
  | _ => []

/-- The outcome of an allocation, hand-off by hand-off. Every receiver takes its own before what any of them leads to, so
that a step that completes or faults as it becomes ACTIVE, or an ENDING jog that withdraws as it is shed, does so after all of
the outcome is taken (R107; assumption log 11). -/
def outcomeTasks (old granted : List Granted) (shedNow : List Hatch) : List Task :=
  let sheds := shedNow.flatMap (shedOff old)
  let grants := granted.flatMap (handOff old)
  sheds.filter (· != .jogShed) ++ grants ++ sheds.filter (· = .jogShed) ++ grants.flatMap afterHandOff

/-! ### Pump sets -/

/-- A start request takes an OFF pump set to STARTING (R82, R86). -/
def startPump (s : State) (k : PumpId) : State :=
  s.setPump k { s.pump k with state := .starting, timer := 0 }

/-- The start decision of an allocation whose scan stopped on a blocked head (R104): the set to start. -/
def startDecision (s : State) (blockedHead : Option Entry) : Option PumpId :=
  if blockedHead.isSome && !anyPump s .starting && !s.stops.estopLatch && s.imageValid then lowestOff s else none

/-- The reduction test (R88): the timer counts for one set while the condition holds. It is run at each allocation, which every
change of A is, and at each analog sample (assumption log 33). -/
def syncReduction (s : State) : State :=
  let r := reductionFor s
  { s with arbiter := { s.arbiter with
    reductionTimer := if r.isSome && r = s.arbiter.reductionSet then s.arbiter.reductionTimer else 0
    reductionSet := r } }

/-- An allocation (R100). A pump set that its start decision starts is a change of that set's state, which is taken by
an allocation of its own after the hand-offs (assumption log 7). -/
def allocate (s : State) : State :=
  let avail := s.supply.available
  let old := s.arbiter.granted
  let a := capacityShed avail old.length ⟨s.arbiter.pending, old, []⟩
  let (b, stopped) := grantScan avail (a.pending.length + a.granted.length) a
  let granted := withShares avail b.granted
  let s := { s with arbiter := { s.arbiter with
    pending := b.pending
    granted := granted
    idleTimer := if b.pending.isEmpty && granted.isEmpty then s.arbiter.idleTimer else 0 } }
  let start := startDecision s stopped
  let s := match start with
    | some k => startPump s k
    | none => s
  let s := syncReduction s
  s.push (outcomeTasks old granted b.shedNow ++ (if start.isSome then [Task.allocate] else []))

/-! ### Joining and leaving the collections -/

/-- The renumbering of a join that finds the counter at 65535 (R97). -/
def Arbiter.renumber (a : Arbiter) : Arbiter :=
  let all := a.pending.map (·.arrival) ++ a.granted.map (·.entry.arrival)
  let rank (e : Entry) : Entry := { e with arrival := (all.filter fun k => decide (k ≤ e.arrival)).length }
  { a with
    pending := a.pending.map rank
    granted := a.granted.map fun g => { g with entry := rank g.entry }
    counter := all.length }

/-- A queue request (R96 to R98): refused with no change where the hatch already has an entry; otherwise the entry joins
with a new arrival sequence, the idle timer returns to 0 (R87) and an allocation follows. -/
def queueEntry (s : State) (h : Hatch) (d : Demand) (c : Cls) (n m : Nat) : State :=
  if s.arbiter.has h then s
  else
    let a := if 65535 ≤ s.arbiter.counter then s.arbiter.renumber else s.arbiter
    let e : Entry := ⟨h, d, c, n, m, a.counter + 1, false⟩
    { s with arbiter := { a with
      pending := insertEntry e a.pending
      counter := a.counter + 1
      idleTimer := 0 } }.push [.allocate]

/-- A completion or withdrawal is handed to the Arbiter (R99). -/
def removeEntry (s : State) (h : Hatch) : State := s.push [.leave h]

/-- The Arbiter takes a completion or withdrawal: the hatch's entry leaves whichever collection holds it, and an allocation
follows; a hatch with no entry changes nothing (R99, R100). -/
def takeLeave (s : State) (h : Hatch) : State :=
  if s.arbiter.has h then
    allocate { s with arbiter := { s.arbiter with
      pending := s.arbiter.pending.filter fun e => e.hatch != h
      granted := s.arbiter.granted.filter fun g => g.entry.hatch != h } }
  else s

/-- The Arbiter takes the class of a hatch's current step; one that it already holds, or of a hatch with no entry, changes
nothing (R99, R100). The class is read as the hand-off is taken, so that a step that has joined meanwhile keeps its own (R146). -/
def takeReclass (s : State) (h : Hatch) : State :=
  match (s.ctx h).step with
  | none => s
  | some t =>
    if !s.arbiter.has h || s.arbiter.classOf h = some t.cls then s
    else allocate { s with arbiter := s.arbiter.changeClass h t.cls }

/-! ### Stop requests and A -/

/-- A stop request (R83): a STARTING or RUNNING set takes STOPPING, and OFF or DISABLED at once where its feedback is
absent. -/
def stopPump (s : State) (k : PumpId) : State :=
  let p := s.pump k
  if p.state = .starting || p.state = .running then
    s.setPump k { p with
      state := if p.feedback then .stopping else if p.rated = 0 then .disabled else .off
      timer := 0 }
  else s

/-- A pump set takes TRIPPED (R82 to R84). -/
def tripPump (s : State) (k : PumpId) (c : TripCause) : State :=
  s.setPump k { s.pump k with state := .tripped, cause := some c }

/-- The low and recovery timers return to 0 while what they count for fails (R91). -/
def syncPressure (s : State) : State :=
  { s with supply := { s.supply with
    lowTimer := if lowCounts s then s.supply.lowTimer else 0
    recoveryTimer := if recoveryCounts s then s.supply.recoveryTimer else 0 } }

/-- LOW_PRESSURE is cleared while no pump set is RUNNING (R91), also while the pressure channel is faulted (assumption log 30). -/
def dropLowPressure (s : State) : State :=
  if anyPump s .running then s else { s with supply := { s.supply with lowPressure := false } }

/-- A is recomputed; a change is handed to the Arbiter, which allocates (R95, R100). -/
def syncAvailable (s : State) : State :=
  if availableNow s = s.supply.available then s
  else allocate { s with supply := { s.supply with available := availableNow s } }

/-- The change of one or more pump sets' states, taken with the A it gives by one allocation (R91, R95, R100; assumption
log 7). -/
def pumpsChanged (s : State) : State :=
  let s := syncPressure (dropLowPressure s)
  allocate { s with supply := { s.supply with available := availableNow s } }

end Sys2Proof.Machine
end

