-- ==== Sys2Proof/Machine/Sequencer.lean ====
section
/-!
DEFINITION. Machine/Sequencer.lean: the Hatch Sequencer's own operations (Chapters 3 and 7): states, valve targets, roll
control, joining, completing and withdrawing a step, faults, derivation, the squall start and the reclamp request. Where one
hands an event to another block it pushes a task (State.agenda); Machine/Cascade.lean takes the tasks.
-/

namespace Sys2Proof.Machine
open Sys2Proof

/-! ### State of a hatch -/

/-- The hatch takes a state with its held cause and next state, and its securing verdict is recomputed (R49, R18). -/
def enterState (s : State) (h : Hatch) (st : HatchState) (held : Option HeldCause) (next : Option NextState) : State :=
  rejudge (s.updCtx h fun c => { c with state := st, held := held, next := next }) h

/-- HELD with a cause (R61). -/
def enterHeld (s : State) (h : Hatch) (c : HeldCause) : State := enterState s h .held (some c) none

/-- STOPPING with a recorded next state; it ends at the entry event where every channel already stands at 0 (R60). -/
def enterStopping (s : State) (h : Hatch) (n : NextState) : State :=
  let s := enterState s h .stopping none (some n)
  if channelsAtRest s h then s.push [.stoppingEnd h] else s

/-- A moving hatch: OPENING, CLOSING or STOPPING. -/
def HatchState.isMoving : HatchState → Bool
  | .opening | .closing | .stopping => true
  | .unknown | .closed | .open | .held | .fault => false

/-- The current step of the hatch is a RECLAMP. -/
def hasReclamp (s : State) (h : Hatch) : Bool :=
  match (s.ctx h).step with
  | some t => t.name = .reclamp
  | none => false

/-! ### Valve targets and roll control (R53, R63 to R66) -/

/-- The band toward which a ROLL step takes a panel (R64). -/
def inRollBand (s : State) (h : Hatch) (t : StepName) (p : Panel) : Bool :=
  if t = .rollOut then isStowed s h p else inClosedBand s h p

/-- The trailing panel of a ROLL_IN waits short of the cross-joint (R65). -/
def trailingWaits (s : State) (h : Hatch) (t : StepCtx) (p : Panel) : Bool :=
  t.name = .rollIn && p != s.params.lead h && !t.arrived.get (s.params.lead h) &&
  match (s.panel h p).position with
  | some x => decide (x ≤ s.params.wait)
  | none => false

/-- Whether a panel of a ROLL step is held to creep (R63). -/
def creeps (s : State) (h : Hatch) (t : StepCtx) (p : Panel) : Bool :=
  inSlowZone s h p (t.name = .rollOut) || heelGates s || windCreeps s

/-- The target command of a panel of an ACTIVE ROLL step (R63 to R65). -/
def panelCommand (s : State) (h : Hatch) (t : StepCtx) (p : Panel) : Nat :=
  let roll := (t.grant.bind (·.roll)).getD 0
  if t.arrived.get p || trailingWaits s h t p then 0
  else if creeps s h t p then min roll s.params.creep
  else roll

/-- The target an ACTIVE step gives a channel, where it drives it (R53). -/
def stepTarget (s : State) (h : Hatch) (t : StepCtx) (c : Channel) : Option Target :=
  match t.name, c with
  | .release, .cleatPort | .release, .cleatStbd | .release, .cleatCross => some ⟨.b, 1000⟩
  | .engage, .cleatPort | .engage, .cleatStbd | .engage, .cleatCross => some ⟨.a, 1000⟩
  | .reclamp, .cleatPort => if t.groups.port then some ⟨.a, 1000⟩ else none
  | .reclamp, .cleatStbd => if t.groups.stbd then some ⟨.a, 1000⟩ else none
  | .reclamp, .cleatCross => if t.groups.cross then some ⟨.a, 1000⟩ else none
  | .lift, .jackPort | .lift, .jackStbd | .unpark, .jackPort | .unpark, .jackStbd => some ⟨.a, 1000⟩
  | .park, .jackPort | .park, .jackStbd | .lower, .jackPort | .lower, .jackStbd => some ⟨.b, 1000⟩
  | .rollOut, .rollPort => some ⟨.a, panelCommand s h t .port⟩
  | .rollOut, .rollStbd => some ⟨.a, panelCommand s h t .stbd⟩
  | .rollIn, .rollPort => some ⟨.b, panelCommand s h t .port⟩
  | .rollIn, .rollStbd => some ⟨.b, panelCommand s h t .stbd⟩
  | _, _ => none

/-- The Sequencer writes a target to a channel: it reaches the buffer while the master is SEQUENCER (R111). -/
def ChannelRec.sequencerWrites (r : ChannelRec) (t : Target) : ChannelRec :=
  { r with sequencerTarget := t, target := if r.jogMaster then r.target else t }

/-- The targets of R53: those of an ACTIVE step, and command 0 with the direction kept on every other channel. -/
def writeTargets (s : State) (h : Hatch) : State :=
  s.updChannels h fun c r =>
    let rest : Target := ⟨r.sequencerTarget.dir, 0⟩
    match (s.ctx h).step with
    | some t => r.sequencerWrites (if t.phase = .active then (stepTarget s h t c).getD rest else rest)
    | none => r.sequencerWrites rest

/-- The stall timer of a panel runs: ACTIVE ROLL step, applied command at least 300, and a speed below the stall
speed (R68). -/
def stallCounts (s : State) (h : Hatch) (p : Panel) : Bool :=
  match (s.ctx h).step with
  | some t =>
    t.phase = .active && t.name.isRoll && decide (300 ≤ (s.channel h (rollChannel p)).applied) &&
    match (s.panel h p).speed with
    | some v => decide ((v.natAbs : Int) < s.params.stallSpeed)
    | none => false
  | none => false

/-- The stall timers return to 0 where their condition fails (R68). -/
def syncStall (s : State) (h : Hatch) : State :=
  s.updCtx h fun c => { c with step := c.step.map fun t =>
    { t with stallTimer :=
      ⟨if stallCounts s h .port then t.stallTimer.port else 0, if stallCounts s h .stbd then t.stallTimer.stbd else 0⟩ } }

/-! ### Ends of a step -/

/-- The current step is removed and command 0 written to every channel of the hatch (R57, R59). -/
def dropStep (s : State) (h : Hatch) : State := writeTargets (s.updCtx h fun c => { c with step := none }) h

/-- A withdrawal (R59): the step leaves the Arbiter, its targets go to 0 and it keeps nothing. -/
def withdraw (s : State) (h : Hatch) : State :=
  match (s.ctx h).step with
  | some _ => removeEntry (dropStep s h) h
  | none => s

/-- The done condition of a step (R52). -/
def isDone (s : State) (h : Hatch) (t : StepCtx) : Bool :=
  match t.name with
  | .release => allHydraulic s h .released
  | .engage => allHydraulic s h .engaged
  | .lift | .unpark => bothJacks s h .lifted
  | .park | .lower => bothJacks s h .lowered
  | .rollOut | .rollIn =>
    t.arrived.port && t.arrived.stbd && (s.channel h .rollPort).applied = 0 && (s.channel h .rollStbd).applied = 0
  | .reclamp => (hatchRecords s h).all fun r => r.2.wanted != .taken || r.2.verdict = .engaged

/-- The completion of a step (R57, R157, R159); the step boundary follows the allocation of its released grant. -/
def complete (s : State) (h : Hatch) (name : StepName) : State :=
  let s := dropStep s h
  let s := match name with
    | .release => reclampEvent (reclampEvent s h .triesReset) h .wantedCleared
    | .engage => reclampEvent s h .wantedCleared
    | .reclamp => reclampEvent s h .reclampDone
    | .lift | .rollOut | .park | .unpark | .rollIn | .lower => s
  removeEntry (s.push [.boundary h name]) h

/-- The done condition of an ACTIVE step is tested (R57). -/
def doneTest (s : State) (h : Hatch) : State :=
  match (s.ctx h).step with
  | some t => if t.phase = .active && isDone s h t then complete s h t.name else s
  | none => s

/-! ### Joining (R54) -/

/-- A step becomes the current step of the hatch: GATED for a ROLL step while the heel is outside its limit, QUEUED
otherwise and handed to the Arbiter. The caller has found it unblocked and the hatch untripped. -/
def joinStep (s : State) (h : Hatch) (name : StepName) : State :=
  let cls := classFor (s.ctx h) name
  let gated := name.isRoll && heelGates s
  let t : StepCtx := ⟨name, cls, if gated then .gated else .queued, 0, none, false, ⟨false, false⟩, ⟨0, 0⟩, ⟨false, false, false⟩⟩
  let s := s.updCtx h fun c => { c with step := some t }
  if gated then s else queueEntry s h (.step name) cls (s.params.stepN name) (s.params.stepM name)

/-- A step joins in the place of the current one, if there is one: the old step's removal has its own allocation before the
new step is queued (R147, R158). -/
def joinInPlace (s : State) (h : Hatch) (name : StepName) : State :=
  match (s.ctx h).step with
  | none => joinStep s h name
  | some _ => removeEntry ((dropStep s h).push [.join h name]) h

/-- The joining at a step boundary or at the end of a STOPPING: a blocked step leaves the hatch HELD (HOLD), a latched trip
leaves it HELD (TRIP) (R54, R58, R60). -/
def joinOrHold (s : State) (h : Hatch) (name : StepName) : State :=
  if isBlocked s h (.step name) then enterHeld s h .hold
  else if s.tripped h then enterHeld s h .trip
  else joinStep s h name

/-! ### Squall start and reclamp request (R149, R155, R158) -/

/-- A CLOSED hatch has closing work remaining (R149). -/
def closingWorkRemains (s : State) (h : Hatch) : Bool :=
  !(bothClosed s h && bothJacks s h .lowered) || !allHydraulic s h .engaged

/-- The conditions of the squall start (R149). -/
def squallPossible (s : State) (h : Hatch) : Bool :=
  (s.ctx h).mark &&
  ((s.ctx h).state = .open || (s.ctx h).state = .held ||
    ((s.ctx h).state = .closed && closingWorkRemains s h)) &&
  s.imageValid && sensingUsable s h && !s.tripped h && !jogOn s h &&
  !isBlocked s h (.step (closingStart s h))

/-- The squall start (R149); it takes the place of a RECLAMP (R158). -/
def squallTry (s : State) (h : Hatch) : State :=
  if squallPossible s h then
    let start := closingStart s h
    let s := if hasReclamp s h then reclampEvent s h .reclampKept else s
    joinInPlace (enterState s h .closing none none) h start
  else s

/-- The conditions of a RECLAMP request (R155). -/
def reclampPossible (s : State) (h : Hatch) : Bool :=
  (s.ctx h).state = .closed && (s.ctx h).step.isNone && !(reclampSet s h).isEmpty &&
  (s.junctions.get h).state != .lost && !jogOn s h && !s.tripped h && !squallPossible s h &&
  !isBlocked s h (.step .reclamp)

/-- A RECLAMP is requested when its conditions hold (R155). -/
def reclampTest (s : State) (h : Hatch) : State := if reclampPossible s h then joinStep s h .reclamp else s

/-- What waits on a hold, a trip or a jog is taken up: the squall start before a RECLAMP (R42, R79, R123, R155). -/
def takeUp (s : State) (h : Hatch) : State := s.push [.squallTry h, .reclampTest h]

/-! ### Step boundary and end of STOPPING (R58, R60) -/

/-- The step boundary after a completed step (R58, R150, R157). -/
def boundary (s : State) (h : Hatch) : StepName → State
  | .release => joinOrHold s h .lift
  | .lift => joinOrHold s h .rollOut
  | .rollOut => joinOrHold s h .park
  | .park => enterState s h .open none none
  | .unpark => joinOrHold s h .rollIn
  | .rollIn => joinOrHold s h .lower
  | .lower => joinOrHold s h .engage
  | .engage => (enterState s h .closed none none).push [.squallTry h]
  | .reclamp => reclampTest s h

/-- The end of a STOPPING (R60). DEDUCED (assumption log 36): a marked hatch that becomes HELD here tries no squall start at this
event, which R149's list of the events that try it does not name; the next event of that list takes it up (R149, R150). -/
def stoppingEnd (s : State) (h : Hatch) : State :=
  if (s.ctx h).state = .stopping && channelsAtRest s h then
    match (s.ctx h).next with
    | some (.held c) => enterHeld s h c
    | some .closing =>
      let s := enterState s h .closing none none
      joinOrHold s h (closingStart s h)
    | none => s
  else s

/-! ### Faults, stops, trips (R67, R71, R72, R78) -/

/-- A fault event (R72). -/
def faultHatch (s : State) (h : Hatch) (c : FaultCause) : State :=
  let s :=
    if (s.ctx h).state = .fault then s
    else
      let s := if hasReclamp s h then reclampEvent (withdraw s h) h .reclampKept else withdraw s h
      enterState s h .fault none none
  s.updCtx h fun x => { x with faults := withCause x.faults c, lastFault := some c }

/-- A moving hatch's step is withdrawn and the hatch goes STOPPING; the withdrawn grant's allocation comes before the end of
a STOPPING that ends at its entry event (R59, R60). -/
def stopStep (s : State) (h : Hatch) (n : NextState) : State := removeEntry (enterStopping (dropStep s h) h n) h

/-- A heel stop (R67). -/
def heelStop (s : State) (h : Hatch) : State := stopStep s h (.held .heel)

/-- The Sequencer's action at a trip (R78). -/
def tripHatch (s : State) (h : Hatch) : State :=
  match (s.ctx h).state with
  | .opening | .closing => enterHeld (withdraw s h) h .trip
  | .stopping => enterHeld s h .trip
  | .closed => if hasReclamp s h then reclampEvent (withdraw s h) h .reclampKept else s
  | .open | .held | .fault | .unknown => s

/-! ### Derivation (R50, R51, R69) -/

/-- Derivation chooses a state from the sensed panels; `cause` is the held cause where neither end is sensed (R50). A panel at or
beyond the overtravel limit derives HELD (R69), also where the bands of R48 alone would give OPEN (DEDUCED: assumption log 35). -/
def derive (s : State) (h : Hatch) (cause : HeldCause) : State :=
  let st : HatchState × Option HeldCause :=
    if bothClosed s h && bothJacks s h .lowered then (.closed, none)
    else if bothStowed s h && bothJacks s h .lowered && !anyBeyondStow s h then (.open, none)
    else (.held, some cause)
  let s := s.updCtx h fun c => { c with faults := 0, lastFault := none }
  enterState s h st.1 st.2 none

/-- An UNKNOWN hatch is derived at the first event at which the image is VALID and its sensing allows it (R51); a mark it
carries is then taken up (R149). -/
def deriveIfReady (s : State) (h : Hatch) : State :=
  if (s.ctx h).state = .unknown && s.imageValid && (s.junctions.get h).derivable then
    (derive s h .restart).push [.squallTry h]
  else s

/-! ### Hand-offs from the Arbiter (R55, R156) -/

/-- The first grant of a step: arrival flags of panels already in their band, the groups of a RECLAMP (R55, R64, R156). -/
def firstGrant (s : State) (h : Hatch) (t : StepCtx) : StepCtx :=
  if t.started then t
  else
    { t with
      started := true
      arrived := if t.name.isRoll then ⟨inRollBand s h t.name .port, inRollBand s h t.name .stbd⟩ else t.arrived
      groups := if t.name = .reclamp then reclampSet s h else t.groups }

/-- A sensing fault that a step meets when it becomes ACTIVE (R70). -/
def activationFault (s : State) (h : Hatch) (t : StepName) : Option FaultCause :=
  if t.isRoll && ((s.junctions.get h).panels.either fun p => p.position.isNone) then some .positionSensor
  else if t.isJack && ((s.junctions.get h).panels.either fun p => p.jack = .switchFault) then some .jackSensor
  else none

/-- A grant (R55): the step becomes ACTIVE with its share and roll command, and its targets are written. -/
def takeGrant (s : State) (h : Hatch) (g : Grant) : State :=
  match (s.ctx h).step with
  | none => s
  | some t =>
    if t.phase = .queued || t.phase = .shed then
      let u := firstGrant s h t
      let s := s.updCtx h fun c => { c with step := some { u with phase := .active, grant := some g } }
      writeTargets (if !t.started && t.name = .reclamp then reclampEvent s h .reclampStarted else s) h
    else s

/-- A step that has become ACTIVE, once its allocation is handed on: its sensing may be faulted (R70), the heel may stop it
(R67), and a step whose done condition already holds completes at this event (R57). -/
def takeActivated (s : State) (h : Hatch) : State :=
  match (s.ctx h).step with
  | none => s
  | some t =>
    if t.phase = .active then
      match activationFault s h t.name with
      | some c => faultHatch s h c
      | none => if t.name.isRoll && heelStops s then heelStop s h else doneTest s h
    else s

/-- A shed (R55). -/
def takeShed (s : State) (h : Hatch) : State :=
  match (s.ctx h).step with
  | some t =>
    if t.phase = .active then
      writeTargets (s.updCtx h fun c => { c with step := some { t with phase := .shed, grant := none, stallTimer := ⟨0, 0⟩ } }) h
    else s
  | none => s

/-- A new share and roll command of a granted step (R55, R66). -/
def takeShare (s : State) (h : Hatch) (g : Grant) : State :=
  match (s.ctx h).step with
  | some t =>
    if t.phase = .active then
      writeTargets (s.updCtx h fun c => { c with step := some { t with grant := some g } }) h
    else s
  | none => s

/-! ### Sensed events at the Sequencer -/

/-- A verdict change of a cleat that is a reclamp trigger is answered by one event (R153). -/
def reclampTrigger (s : State) (id : CleatId) (old new : CleatVerdict) : State :=
  match s.slot id with
  | none => s
  | some r =>
    if r.isHydraulic && old = .engaged && (new = .released || new = .moving || new = .sensorFault) &&
        (s.ctx (cleatHatch id)).state = .closed && r.wanted = .no then
      if r.tries < 3 then
        (s.setSlot id (some { r with wanted := .waiting })).push [.reclampTest (cleatHatch id)]
      else s.setSlot id (some { r with lost := true })
    else s

/-- The Sequencer takes a verdict change: the done condition of a step, a reclamp trigger, and the squall start of a
CLOSED marked hatch (R57, R149, R153). -/
def takeCleatChange (s : State) (id : CleatId) (old new : CleatVerdict) : State :=
  let h := cleatHatch id
  let s := if (s.ctx h).state = .closed then s.push [.squallTry h] else s
  doneTest (reclampTrigger s id old new) h

/-- The arrival flags of a started ROLL step at a position report (R64). -/
def syncArrival (s : State) (h : Hatch) : State :=
  s.updCtx h fun c => { c with step := c.step.map fun t =>
    if t.name.isRoll && t.started then
      { t with arrived :=
        ⟨t.arrived.port || inRollBand s h t.name .port, t.arrived.stbd || inRollBand s h t.name .stbd⟩ }
    else t }

/-- An ACTIVE ROLL step. -/
def rollActive (s : State) (h : Hatch) : Bool :=
  match (s.ctx h).step with
  | some t => t.phase = .active && t.name.isRoll
  | none => false

/-- An ACTIVE JACK step. -/
def jackActive (s : State) (h : Hatch) : Bool :=
  match (s.ctx h).step with
  | some t => t.phase = .active && t.name.isJack
  | none => false

/-- An overtravel: a panel at or beyond the overtravel limit on a moving hatch (R69). -/
def overtravelled (s : State) (h : Hatch) (p : Panel) : Bool := (s.ctx h).state.isMoving && beyondStow s h p

/-- The Sequencer takes a position report (R51, R64, R66, R68 to R70, R149). -/
def takePosition (s : State) (h : Hatch) (p : Panel) (bandChanged : Bool) : State :=
  let s := rejudge s h
  if (s.panel h p).position.isNone && rollActive s h then faultHatch s h .positionSensor
  else if overtravelled s h p then faultHatch s h .overtravel
  else
    let s := deriveIfReady s h
    let s := if bandChanged && (s.ctx h).state = .closed then s.push [.squallTry h] else s
    let s := syncStall (syncArrival s h) h
    if rollActive s h then doneTest (writeTargets s h) h else s

/-- The Sequencer takes a changed jack verdict (R51, R57, R70, R149). -/
def takeJack (s : State) (h : Hatch) (p : Panel) : State :=
  let s := rejudge s h
  if (s.panel h p).jack = .switchFault && jackActive s h then faultHatch s h .jackSensor
  else
    let s := deriveIfReady s h
    let s := if (s.ctx h).state = .closed then s.push [.squallTry h] else s
    doneTest s h

/-- The Sequencer takes heel and wind: the heel stop, the gate of a GATED ROLL step, and the roll targets (R54, R66, R67). -/
def takeHeelWind (s : State) (h : Hatch) : State :=
  match (s.ctx h).step with
  | none => s
  | some t =>
    if t.name.isRoll then
      match t.phase with
      | .active => if heelStops s then heelStop s h else writeTargets s h
      | .gated =>
        if heelGates s then s
        else
          queueEntry (s.updCtx h fun c => { c with step := some { t with phase := .queued } }) h (.step t.name) t.cls
            (s.params.stepN t.name) (s.params.stepM t.name)
      | .queued | .shed => s
    else s

end Sys2Proof.Machine
end

