-- ==== Sys2Proof/Machine/Valve.lean ====
section
/-!
DEFINITION. Machine/Valve.lean: the Valve Drive's own operations (Chapter 5): the movement of a channel at a drive update
(R112, R113), the coil check (R116), cuts and forcings (R117, R118, R126), and the jog (R122 to R124).
-/

namespace Sys2Proof.Machine
open Sys2Proof

/-! ### Movement and check of one channel -/

/-- The movement of a channel that is not held, by the tables of R112 (proportional) and R113 (on/off). -/
def ChannelRec.moved (p : Image) (proportional : Bool) (r : ChannelRec) : ChannelRec :=
  let lowered := if proportional then r.applied - p.rampDown else 0
  if r.target.command = 0 then { r with applied := lowered }
  else match r.working with
    | none =>
      if r.deadtime = 0 then
        { r with
          working := some r.target.dir
          applied := if proportional then min p.rampUp r.target.command else 1000 }
      else { r with applied := 0 }
    | some w =>
      if w = r.target.dir then
        { r with applied :=
          if !proportional then 1000
          else if r.applied < r.target.command then min (r.applied + p.rampUp) r.target.command
          else max lowered r.target.command }
      else if lowered = 0 then { r with applied := 0, working := none, deadtime := p.deadtime }
      else { r with applied := lowered }

/-- The mismatch class of what a channel energises and what its coil reads (R116). -/
def mismatchOf (energised sensed : Option Dir) : Mismatch :=
  match energised, sensed with
  | none, none => .none
  | some _, none => .onWithoutCurrent
  | none, some _ => .currentWithoutOn
  | some x, some y => if x = y then .none else .currentWithoutOn

/-- The coil check of a drive update: the class and its timer, which stops at 200 ms (R116). -/
def ChannelRec.checked (r : ChannelRec) : ChannelRec :=
  let m := mismatchOf r.energised r.sensed
  { r with
    mismatch := m
    mismatchTimer := if m = .none then 0 else if m = r.mismatch then min 200 (r.mismatchTimer + 20) else 20 }

/-- A trip cut of a channel: applied 0, duty 0 and working direction NONE at once, and the deadtime starts (R126). -/
def ChannelRec.cutOff (deadtime : Nat) (r : ChannelRec) : ChannelRec :=
  { r with applied := 0, duty := 0, working := none, deadtime := deadtime }

/-- A forcing off at a coil fault: as a cut, and the mismatch timer returns to 0 (R117, R118). -/
def ChannelRec.forcedOff (deadtime : Nat) (r : ChannelRec) : ChannelRec :=
  { r.cutOff deadtime with mismatchTimer := 0 }

/-- The trip cut of a hatch's seven channels (R126). -/
def cutHatch (s : State) (h : Hatch) : State := s.updChannels h fun _ r => r.cutOff s.params.deadtime

/-! ### The jog (R121 to R124) -/

/-- The end stop of a roll jog (R122). -/
def endStop (s : State) (j : Jog) : Bool :=
  match rollPanel? j.channel with
  | none => false
  | some p =>
    match (s.panel j.hatch p).position with
    | none => false
    | some x =>
      match j.dir with
      | .b => decide (x ≤ s.params.band)
      | .a => decide (s.params.stow j.hatch ≤ x)

/-- The jog's target for its channel: its command, or 0 where an end stop holds or the jog is not ACTIVE (R122 to R124). -/
def jogTarget (s : State) (j : Jog) : Target := ⟨j.dir, if j.phase = .active && !endStop s j then j.command else 0⟩

/-- The jog writes the buffered target of its channel while it is its master (R111, R122). -/
def writeJog (s : State) : State :=
  match s.drive.jog with
  | none => s
  | some j =>
    let r := s.channel j.hatch j.channel
    if r.jogMaster then s.setChannel j.hatch j.channel { r with target := jogTarget s j } else s

/-- An ACTIVE jog writes its target again, with its end stop tested (R122, R123). -/
def refreshJog (s : State) : State :=
  match s.drive.jog with
  | some j => if j.phase = .active then writeJog s else s
  | none => s

/-- The jog is over: its channel's master returns to SEQUENCER with the Sequencer's target, the record becomes absent, an
entry that still stands is released, and what the Sequencer held back is taken up (R111, R123). -/
def jogRelease (s : State) : State :=
  match s.drive.jog with
  | none => s
  | some j =>
    let r := s.channel j.hatch j.channel
    let s := if r.jogMaster then s.setChannel j.hatch j.channel { r with jogMaster := false, target := r.sequencerTarget } else s
    removeEntry (takeUp (s.setJog none) j.hatch) j.hatch

/-- The jog is over where it is ENDING and its channel stands at applied 0 (R123). -/
def jogReleaseIfRest (s : State) : State :=
  match s.drive.jog with
  | none => s
  | some j => if j.phase = .ending && (s.channel j.hatch j.channel).applied = 0 then jogRelease s else s

/-- The end of the jog as its phase gives (R123, R124). -/
def jogEnd (s : State) : State :=
  match s.drive.jog with
  | none => s
  | some j =>
    match j.phase with
    | .queued => jogRelease s
    | .shed =>
      let s := s.setJog (some { j with phase := .ending })
      if (s.channel j.hatch j.channel).applied = 0 then jogRelease s else writeJog (removeEntry s j.hatch)
    | .active => jogReleaseIfRest (writeJog (s.setJog (some { j with phase := .ending })))
    | .ending => jogReleaseIfRest s

/-- The jog ends when it is on this hatch. -/
def jogEndOn (s : State) (h : Hatch) : State := if jogOn s h then jogEnd s else s

/-- The jog ends when it is a roll jog of this panel whose position has become INVALID (R124). -/
def jogEndInvalid (s : State) (h : Hatch) (p : Panel) : State :=
  match s.drive.jog with
  | some j => if j.hatch = h && j.channel = rollChannel p && (s.panel h p).position.isNone then jogEnd s else s
  | none => s

/-- A grant of the jog's entry (R122, R124). -/
def takeJogGrant (s : State) : State :=
  match s.drive.jog with
  | none => s
  | some j =>
    if j.phase = .queued || j.phase = .shed then
      let s := s.setJog (some { j with phase := .active })
      writeJog (s.setChannel j.hatch j.channel { s.channel j.hatch j.channel with jogMaster := true })
    else s

/-- A shed of the jog's entry: an ACTIVE jog waits SHED with target 0; an ENDING one withdraws the entry (R124). -/
def takeJogShed (s : State) : State :=
  match s.drive.jog with
  | none => s
  | some j =>
    match j.phase with
    | .active => writeJog (s.setJog (some { j with phase := .shed }))
    | .ending => removeEntry s j.hatch
    | .queued | .shed => s

/-! ### Coil faults and trips -/

/-- An OPEN_COIL handed on: a moving hatch is faulted, and a jog on the channel ends (R71, R117). -/
def takeOpenCoil (s : State) (h : Hatch) (c : Channel) : State :=
  let s := match s.drive.jog with
    | some j => if j.hatch = h && j.channel = c then jogEnd s else s
    | none => s
  if (s.ctx h).state.isMoving then faultHatch s h .valve else s

/-- A STUCK_ON handed on: the hatch is faulted from every state, and a jog on the hatch ends (R71, R118). -/
def takeStuckOn (s : State) (h : Hatch) (_c : Channel) : State := faultHatch (jogEndOn s h) h .valve

/-- A trip of a hatch: the cut, the end of a jog, and the Sequencer's action (R78, R124, R126). -/
def takeTrip (s : State) (h : Hatch) : State := tripHatch (jogEndOn (cutHatch s h) h) h

end Sys2Proof.Machine
end

