-- ==== Sys2Proof/Machine/Cascade.lean ====
section
/-!
DEFINITION. Machine/Cascade.lean: the hand-offs of one event. A command does its own part and pushes what it hands on;
`settle` then takes the hand-offs, each before those that were waiting, until none is left, so that a command is one whole
and indivisible step (spec/95_what_each_step_holds.md). At most 4096 hand-offs are taken for one command; what is left would
stay in the agenda for the next, and nothing is dropped (assumption log 1).
-/

namespace Sys2Proof.Machine
open Sys2Proof

/-- What a hand-off does at its receiver. -/
def runTask (t : Task) (s : State) : State :=
  match t with
  | .allocate => allocate s
  | .leave h => takeLeave s h
  | .reclass h => takeReclass s h
  | .grant h g => takeGrant s h g
  | .shed h => takeShed s h
  | .reshare h g => takeShare s h g
  | .activated h => takeActivated s h
  | .jogGrant => takeJogGrant s
  | .jogShed => takeJogShed s
  | .join h name => joinStep s h name
  | .boundary h done => boundary s h done
  | .doneTest h => doneTest s h
  | .cleatChange id old new => takeCleatChange s id old new
  | .position h p bandChanged => refreshJog (jogEndInvalid (takePosition s h p bandChanged) h p)
  | .jack h p => takeJack s h p
  | .heelWind h => takeHeelWind s h
  | .squallTry h => squallTry s h
  | .reclampTest h => reclampTest s h
  | .stoppingEnd h => stoppingEnd s h
  | .openCoil h c => takeOpenCoil s h c
  | .stuckOn h c => takeStuckOn s h c
  | .answer f code extra => replyStanding s f code extra

/-- Takes at most `n` hand-offs, the first of the agenda first. -/
def drain : Nat → State → State
  | 0, s => s
  | n + 1, s =>
    match s.agenda with
    | [] => s
    | t :: ts => drain n (runTask t { s with agenda := ts })

/-- Takes the hand-offs of an event until none is left. -/
def settle (s : State) : State := drain 4096 s

/-- The outcome of a command that changes the part by `f` and may hand on; a part held in reset takes none (R187). -/
def event (f : State → State) (s : State) : Host.Outcome State Fault Refusal :=
  .next (if s.inReset then s else settle (f s))

/-- The outcome of a command that changes the part by `f` and hands nothing on; a part held in reset takes none (R187). -/
def quiet (f : State → State) (s : State) : Host.Outcome State Fault Refusal :=
  .next (if s.inReset then s else f s)

end Sys2Proof.Machine
end

