-- ==== Sys2Proof/Machine/Cleats.lean ====
section
/-!
DEFINITION. Machine/Cleats.lean: CONFIRM_CLEAT (R9, R10) and SET_SERVICE (R12 to R14).
-/

namespace Sys2Proof.Machine
open Sys2Proof

/-! ### CONFIRM_CLEAT -/

/-- A confirmation that is taken (R10). -/
def takeConfirmation (s : State) (f : RxFrame) (id : CleatId) (r : CleatRec) (fastened : Bool) : State :=
  let s := s.setSlot id (some { r with confirmation := some ⟨fastened, f.station, s.uptime⟩ })
  let s := reply (retain s (.cleat id)) f .ok (bytes2 id.val ++ [byteOf (bit (!fastened) 1)])
  rejudge s (cleatHatch id)

/-- Rows 3 to 9 of R9. -/
def confirmCleatAt (s : State) (f : RxFrame) (id : CleatId) : State :=
  let st := (s.ctx (cleatHatch id)).state
  if !(f.station = localStation (cleatHatch id) || roleOf f.station = .service) then reply s f .refusedAuthority
  else match s.slot id with
    | none => reply s f .unknownItem
    | some r =>
      if 1 < f.byte 4 then reply s f .badValue
      else if !r.byHand then reply s f .badValue
      else if f.byte 4 = 0 && st != .closed then reply s f .notReady
      else if f.byte 4 = 1 && (st = .opening || st = .closing || st = .stopping) then reply s f .busy
      else takeConfirmation s f id r (f.byte 4 = 0)

/-- The CONFIRM_CLEAT request (R9). -/
def confirmRequest (f : RxFrame) (s : State) : State :=
  if !s.imageValid then reply s f .notReady
  else match cleatOf (f.word 2) with
    | none => reply s f .unknownItem
    | some id => confirmCleatAt s f id

/-- CONFIRM_CLEAT (R9, R10). -/
def execConfirmCleat (s : State) : Host.Outcome State Fault Refusal :=
  event (taking (ofKind kindConfirmCleat) confirmRequest) s

/-! ### SET_SERVICE -/

/-- The service a request names: IN_SERVICE, HAND_SET or RETIRED. -/
def serviceOf : Nat → Option Service
  | 0 => some .inService
  | 1 => some .handSet
  | 2 => some .retired
  | _ => none

/-- The record after a service change (R13). -/
def CleatRec.withService (r : CleatRec) (sv : Service) (station : StationId) (time : Nat) : CleatRec :=
  { r with
    service := sv
    confirmation := none
    retirement := if sv = .retired then some ⟨station, time⟩ else none
    tries := 0
    wanted := if sv = .inService then r.wanted else .no
    lost := false }

/-- Row 7 of R12. -/
def serviceBusy (s : State) (h : Hatch) : Bool := (s.ctx h).state.isMoving || s.arbiter.has h

/-- A service change that is taken (R13, R14). It requests no step of its own; where it takes a wanted cleat to NO the reclamp
set of the hatch has changed, and R155 is tested. -/
def takeService (s : State) (f : RxFrame) (id : CleatId) (r : CleatRec) (sv : Service) : State :=
  let s := s.setSlot id (some (r.withService sv f.station s.uptime))
  let s := reply (retain s (.cleat id)) f .ok (bytes2 id.val ++ [byteOf sv.code])
  let s := if r.wanted != .no && sv != .inService then s.push [.reclampTest (cleatHatch id)] else s
  rejudge s (cleatHatch id)

/-- Rows 3 to 8 of R12; code 3 is ABSENT. -/
def setServiceAt (s : State) (f : RxFrame) (id : CleatId) : State :=
  if !(roleOf f.station = .bridge || roleOf f.station = .service) then reply s f .refusedAuthority
  else if f.byte 4 = 3 then reply s f .unknownItem
  else match s.slot id with
    | none => reply s f .unknownItem
    | some r =>
      match serviceOf (f.byte 4) with
      | none => reply s f .badValue
      | some sv =>
        if sv = .handSet && r.manual then reply s f .badValue
        else if serviceBusy s (cleatHatch id) then reply s f .busy
        else takeService s f id r sv

/-- The SET_SERVICE request (R12). -/
def serviceRequest (f : RxFrame) (s : State) : State :=
  if !s.imageValid then reply s f .notReady
  else match cleatOf (f.word 2) with
    | none => reply s f .unknownItem
    | some id => setServiceAt s f id

/-- SET_SERVICE (R12 to R14). -/
def execSetService (s : State) : Host.Outcome State Fault Refusal :=
  event (taking (ofKind kindSetService) serviceRequest) s

end Sys2Proof.Machine
end

