-- ==== Sys2Proof/Machine/DriveUnit.lean ====
section
/-!
DEFINITION. Machine/DriveUnit.lean: the Valve Drive's commands: DRIVE_UPDATE (R111 to R118), DEADTIME_EXPIRY (R114),
COIL_FEEDBACK_CHANGE (R109), and JOG with its renewal, timer and key (R121 to R124).
-/

namespace Sys2Proof.Machine
open Sys2Proof

/-! ### DRIVE_UPDATE -/

/-- The movement of a channel at its update: a held channel stands at 0 with working direction NONE (R112, R113, R115). -/
def ChannelRec.stepped (p : Image) (held proportional : Bool) (r : ChannelRec) : ChannelRec :=
  if held then { r with applied := 0, working := none } else r.moved p proportional

/-- A coil fault is declared at the update at which the mismatch timer reaches 200 ms (R116). -/
def declares (before after : ChannelRec) : Bool :=
  decide (after.mismatchTimer = 200) && !(decide (before.mismatchTimer = 200) && before.mismatch = after.mismatch)

/-- The flag of a channel is set while it takes a command above 0 after one of 0: the OPEN_COIL is handed on again (R117). -/
def handsAgain (before : ChannelRec) : Bool :=
  before.coilFault && decide (0 < before.target.command) && !before.tookCommand

/-- STUCK_ON (R118): the channel's flag, and the cut of the hatch where it is not cut already. -/
def declareStuckOn (s : State) (h : Hatch) (c : Channel) : State :=
  let s := s.setChannel h c { s.channel h c with coilFault := true }
  if s.drive.cut.get h then s
  else
    let s := s.updChannels h fun _ r => r.forcedOff s.params.deadtime
    { s with drive := { s.drive with cut := s.drive.cut.set h true } }

/-- OPEN_COIL (R117): the flag, and the channel forced off. -/
def declareOpenCoil (s : State) (h : Hatch) (c : Channel) : State :=
  s.setChannel h c { (s.channel h c).forcedOff s.params.deadtime with coilFault := true }

/-- What the check of an update finds, with what it hands to the Sequencer (R116 to R118). -/
def coilFound (s : State) (h : Hatch) (c : Channel) (before : ChannelRec) : State × List Task :=
  let r := s.channel h c
  if declares before r then
    if r.mismatch = .currentWithoutOn then (declareStuckOn s h c, [.stuckOn h c])
    else (declareOpenCoil s h c, [.openCoil h c])
  else (s, if handsAgain before then [.openCoil h c] else [])

/-- A changed applied command is handed to the Sequencer and to a jog that ends (R60, R68, R115, R123). -/
def reportApplied (s : State) (h : Hatch) : State := jogReleaseIfRest (syncStall (s.push [.stoppingEnd h, .doneTest h]) h)

/-- An update that leaves its channel as it was still ends a jog that a cut has brought to rest (R123, R126). -/
def restingUpdate (s : State) (h : Hatch) (c : Channel) : State :=
  match s.drive.jog with
  | some j => if j.hatch = h && j.channel = c then jogReleaseIfRest s else s
  | none => s

/-- The record after the movement and the check of an update, with the duty that the offset of this moment gives (R110, R112 to
R116). -/
def updatedChannel (s : State) (h : Hatch) (c : Channel) : ChannelRec :=
  let before := s.channel h c
  let r := before.stepped s.params (channelHeld s h c) (rollPanel? c).isSome
  ({ r with
    duty := dutyOf s.params.offset (rollPanel? c).isSome r.applied
    tookCommand := decide (0 < before.target.command) } : ChannelRec).checked

/-- The drive update of one channel; a coil fault is taken before the report of the applied command (assumption log 10). -/
def updateChannel (h : Hatch) (c : Channel) (s : State) : State :=
  let before := s.channel h c
  let found := coilFound (s.setChannel h c (updatedChannel s h c)) h c before
  let after := found.1.channel h c
  (if after.applied = before.applied && after.working = before.working then restingUpdate found.1 h c
    else reportApplied found.1 h).push found.2

/-- DRIVE_UPDATE (R112 to R118). -/
def execDriveUpdate (hatch : Hatch) (channel : Channel) (s : State) : Host.Outcome State Fault Refusal :=
  event (updateChannel hatch channel) s

/-! ### DEADTIME_EXPIRY and COIL_FEEDBACK_CHANGE -/

/-- DEADTIME_EXPIRY (R114): the deadtime remaining of a channel reaches 0. One that a cut of the same instant has started again stands
at the full value and goes on (assumption log 2). -/
def execDeadtimeExpiry (hatch : Hatch) (channel : Channel) (s : State) : Host.Outcome State Fault Refusal :=
  quiet (fun s =>
    if (s.channel hatch channel).deadtime = s.params.deadtime then s
    else s.setChannel hatch channel { s.channel hatch channel with deadtime := 0 }) s

/-- COIL_FEEDBACK_CHANGE (R109): the coil sensed follows its line, in reset too. -/
def execCoilFeedbackChange (hatch : Hatch) (channel : Channel) (sensed : Option Dir) (s : State) :
    Host.Outcome State Fault Refusal :=
  .next (s.setChannel hatch channel { s.channel hatch channel with sensed := sensed })

/-! ### JOG -/

/-- The jog maximum, per-mille (R122). -/
def jogMaximum : Nat := 300

/-- What the jog timer starts from, ms (R122, R123). -/
def jogTime : Nat := 500

/-- The operands of a JOG frame: hatch, channel and the three numbers it carries (R190). -/
def jogHatch (f : RxFrame) : Option Hatch := hatchOf (f.byte 2)
def jogChannel (f : RxFrame) : Option Channel := channelOf (f.byte 3)
def jogDir (f : RxFrame) : Option Dir := dirOf (f.byte 4)
def jogCommand (f : RxFrame) : Nat := f.word 5

/-- The frame names the hatch and channel of a jog in progress that is not ENDING (R121). -/
def isRenewal (s : State) (f : RxFrame) : Bool :=
  match s.drive.jog with
  | some j => j.phase != .ending && jogHatch f = some j.hatch && jogChannel f = some j.channel
  | none => false

/-- Row 9 of R121. -/
def jogNotReady (s : State) (h : Hatch) (c : Channel) : Bool :=
  !s.vsupOn h || (s.channel h c).coilFault ||
  match rollPanel? c with
  | some p => (s.panel h p).position.isNone
  | none => false

/-- The clamped command in two bytes (R190). -/
def clampedBytes (command : Nat) : List Byte := bytes2 (min command jogMaximum)

/-- Rows 5 to 12 of R121, and the start of the jog (R122). -/
def startJog (s : State) (f : RxFrame) (h : Hatch) (c : Channel) (d : Dir) (command : Nat) : State :=
  let st := (s.ctx h).state
  if s.drive.jog.isSome then reply s f .busy
  else if st.isMoving then reply s f .busy
  else if st = .unknown || st = .closed || st = .open then reply s f .notReady
  else if s.tripped h then reply s f .tripped
  else if jogNotReady s h c then reply s f .notReady
  else if isBlocked s h (.jog c) then reply s f .blocked
  else if command = 0 then reply s f .already
  else
    let s := (reply s f .accepted (clampedBytes command)).setJog (some ⟨h, c, d, min command jogMaximum, .queued, jogTime⟩)
    queueEntry s h (.jog c) .normal 40 40

/-- A renewal (R123); one with command 0 ends the jog. -/
def renewJog (s : State) (f : RxFrame) (d : Dir) (command : Nat) : State :=
  match s.drive.jog with
  | none => s
  | some j =>
    let s := (reply s f .ok (clampedBytes command)).setJog
      (some { j with dir := d, command := min command jogMaximum, timer := jogTime })
    if command = 0 then jogEnd s else refreshJog s

/-- Rows 1 to 4 of R121, shared by a JOG and its renewal. -/
def jogChecked (keyServiceClosed : Bool) (take : State → RxFrame → Hatch → Channel → Dir → Nat → State) (f : RxFrame)
    (s : State) : State :=
  let s := { s with keyService := keyServiceClosed }
  if !s.imageValid then reply s f .notReady
  else match jogHatch f, jogChannel f with
    | some h, some c =>
      if !(roleOf f.station = .service && keyServiceClosed) then reply s f .refusedAuthority
      else match jogDir f with
        | none => reply s f .badValue
        | some d => if 1000 < jogCommand f then reply s f .badValue else take s f h c d (jogCommand f)
    | _, _ => reply s f .unknownItem

/-- JOG that is no renewal (R121, R122). -/
def execJog (keyServiceClosed : Bool) (s : State) : Host.Outcome State Fault Refusal :=
  event (fun s => taking (fun f => ofKind kindJog f && !isRenewal s f) (jogChecked keyServiceClosed startJog) s) s

/-- JOG that is a renewal (R121, R123). -/
def execJogRenewal (keyServiceClosed : Bool) (s : State) : Host.Outcome State Fault Refusal :=
  event (fun s => taking (fun f => ofKind kindJog f && isRenewal s f)
    (jogChecked keyServiceClosed fun s f _ _ d command => renewJog s f d command) s) s

/-- JOG_TIMER_EXPIRY (R123): the jog timer of a jog that is not ENDING reaches 0. One that a renewal of the same instant has set
back goes on (assumption log 2). -/
def execJogTimerExpiry (s : State) : Host.Outcome State Fault Refusal :=
  event (fun s =>
    match s.drive.jog with
    | some j => if j.phase = .ending || decide (jogTime ≤ j.timer) then s else jogEnd (s.setJog (some { j with timer := 0 }))
    | none => s) s

/-- KEY_SERVICE_OPENS (R124): a jog in progress ends. -/
def execKeyServiceOpens (s : State) : Host.Outcome State Fault Refusal :=
  .next <|
    let t := { s with keyService := false }
    if s.inReset then t else settle (jogEnd t)

end Sys2Proof.Machine
end

