-- ==== Sys2Proof/Machine/Startup.lean ====
section
/-!
DEFINITION. Machine/Startup.lean: RESET, START_UP, IMAGE_READ_END and IMAGE_READ_TIMEOUT (R23, R25, R46, R179, R180, R186 to
R188), and the change of a pump set's rated flow (R90).
-/

namespace Sys2Proof.Machine
open Sys2Proof

/-! ### Retention test (R186) -/

/-- Two entries match: owner, kind, scope and panel are equal (R27). -/
def HoldEntry.matches (a b : HoldEntry) : Bool :=
  a.owner = b.owner && a.kind = b.kind && a.scope = b.scope && a.panel = b.panel

/-- A scope of exactly one hatch. -/
def oneHatch (scope : BitVec 9) : Bool := (allHatches.filter fun h => scope.getLsbD h.val).length = 1

/-- A kept entry's values lie in their ranges (R27). -/
def HoldEntry.inRange (e : HoldEntry) : Bool :=
  decide (1 ≤ e.id) && decide (e.id ≤ 255) && decide (e.owner.val ≠ 14) && e.scope != 0 &&
  (e.panel.isNone || (e.kind = .crane && oneHatch e.scope)) &&
  decide (1 ≤ e.count) && decide (e.count ≤ 15) && decide (e.placed < 2 ^ 32)

/-- No two of the entries share an id or match (R26). -/
def distinctEntries : List HoldEntry → Bool
  | [] => true
  | e :: es => (es.all fun x => x.id != e.id && !x.matches e) && distinctEntries es

/-- The list's own laws: at most 48 entries, counts 1 to 15, unique ids, no two matching entries (R26, R186). -/
def holdLaws (es : List HoldEntry) : Bool :=
  decide (es.length ≤ 48) && (es.all fun e => decide (1 ≤ e.count) && decide (e.count ≤ 15)) && distinctEntries es

/-- A kept cleat part's values lie in their ranges (R2). -/
def Kept.inRange (k : Kept) : Bool :=
  decide (k.faultCount ≤ 255) &&
  (match k.confirmation with
    | some c => decide (c.station.val ≤ 13) && decide (c.time < 2 ^ 32)
    | none => true) &&
  (match k.retirement with
    | some t => decide (t.station.val ≤ 13) && decide (t.time < 2 ^ 32)
    | none => true)

/-- The retention memory is valid: its check word agrees, its values lie in their ranges and the list keeps its laws (R186). -/
def Retention.valid (r : Retention) : Bool :=
  r.checkOk && (r.entries.all HoldEntry.inRange) && decide (r.counter ≤ 255) && holdLaws r.entries &&
  r.cleats.items.all Kept.inRange

/-- The RESTART entry (R46). -/
def restartEntry : HoldEntry := ⟨1, 15, .restart, 0x1FF, none, 1, false, 0⟩

/-- The retention memory as the test leaves it: as it stood where valid, otherwise rewritten whole (R46, R186). -/
def Retention.tested (r : Retention) : Retention :=
  if r.valid then { r with waiting := [], underWay := none }
  else ⟨[restartEntry], 1, Tbl.fill 288 .built, true, [], none⟩

/-! ### RESET (R187) -/

/-- Every block at its reset values, less what outlasts a reset: the retention memory, the levels of the lines, the
failing check word of the external memory, and the waiting commands (R185, R187). -/
def blank (s : State) : State :=
  { State.reset with
    supply := { State.reset.supply with pumps := s.supply.pumps.map fun p => Pump.reset p.feedback }
    drive := { State.reset.drive with
      channels := s.drive.channels.map fun t => t.map fun _ r => ChannelRec.reset r.sensed }
    stops := { State.reset.stops with estopOpen := s.stops.estopOpen, loopOpen := s.stops.loopOpen }
    store := { State.reset.store with memoryFailing := s.store.memoryFailing }
    retention := s.retention
    keyOverride := s.keyOverride
    keyService := s.keyService
    inReset := s.inReset
    resetCause := s.resetCause
    pending := s.pending }

/-- The retention memory when a reset falls: waiting writes are lost, and a write under way, or a loss of VBAK with the
supply, leaves the check word failing (R185). -/
def Retention.cutShort (r : Retention) (kept : Bool) : Retention :=
  { r with checkOk := r.checkOk && kept && r.underWay.isNone, waiting := [], underWay := none }

/-- The part is held in reset (R187). -/
def holdReset (s : State) (kept : Bool) (cause : ResetCause) : State :=
  { blank s with
    inReset := true
    junctions := Tbl.fill 9 .reset
    resetCause := if s.inReset && s.resetCause = .powerOn then .powerOn else cause
    retention := s.retention.cutShort kept
    store := { State.reset.store with
      memoryFailing := s.store.memoryFailing || s.store.write.isSome || s.store.unsaved.isSome } }

/-- RESET (R187): a low pulse of RESET_N shorter than 10 microseconds is ignored. -/
def execReset (source : ResetSource) (s : State) : Host.Outcome State Fault Refusal :=
  .next <| match source with
    | .supplyFell vbak => holdReset s vbak .powerOn
    | .resetN micros => if micros < 10 then s else holdReset s true .resetN

/-! ### START_UP (R188) -/

/-- The start event: each block takes its reset values, the retention test is taken, and the loops and the run feedback
are read (R25, R46, R81, R125, R186, R188). -/
def started (s : State) : State :=
  let r := s.retention.tested
  { blank s with
    inReset := false
    retention := r
    holds := ⟨r.entries.map fun e => { e with stale := e.owner != 15 }, r.counter⟩
    stops := { State.reset.stops with
      estopOpen := s.stops.estopOpen
      loopOpen := s.stops.loopOpen
      estopLatch := s.stops.estopOpen
      latch := s.stops.loopOpen } }

/-- START_UP (R188): the end of a reset; a part that is not held in reset takes none (assumption log 5). -/
def execStartUp (s : State) : Host.Outcome State Fault Refusal :=
  .next (if s.inReset then started s else s)

/-! ### The image becomes VALID (R180) -/

/-- A record as built from the layout (R2). -/
def builtSlot (p : Image) (id : CleatId) : Option CleatRec :=
  if p.fitted id then
    let manual := p.isManual id
    let sensor := !manual || p.hasSensor id
    some ⟨manual, sensor, .inService, [], if sensor then .unverified else .noSensor, none, none, 0, 0, .no, false⟩
  else none

/-- The kept fields agree with the layout (R23). -/
def Kept.agrees (k : Kept) (built : Option CleatRec) : Bool :=
  match built, k.service with
  | none, none => k.confirmation.isNone
  | some b, some sv =>
    (sv != .handSet || !b.manual) &&
    (k.confirmation.isNone || (sv = .inService && b.manual) || sv = .handSet)
  | _, _ => false

/-- A record with its kept fields applied (R23). -/
def restoredSlot (k : Kept) (built : Option CleatRec) : Option CleatRec :=
  if k.agrees built then
    match built, k.service with
    | some b, some sv =>
      some { b with service := sv, confirmation := k.confirmation, retirement := k.retirement, faultCount := k.faultCount }
    | _, _ => none
  else built

/-- The Securing Table builds the 288 records and applies their kept fields; the records whose kept fields do not agree
are written to the retention memory as built (R23), in id order (assumption log 29). -/
def buildTable (s : State) : State :=
  let p := s.store.copy
  let kept := s.retention.cleats
  let s := { s with table := { s.table with
    slots := Tbl.build fun id => restoredSlot (kept.get id) (builtSlot p id) } }
  let wrong := (List.finRange 288).filter fun id => !(kept.get id).agrees (builtSlot p id)
  wrong.foldl (fun s id => retain s (.cleat id)) s

/-- The rated flow of a pump set changes (R90). -/
def setRating (s : State) (k : PumpId) (v : Nat) : State :=
  let s := s.setPump k { s.pump k with rated := v }
  let p := s.pump k
  match p.state with
  | .disabled =>
    if v = 0 then s
    else if p.feedback then tripPump s k .failToStop
    else s.setPump k { p with state := .off }
  | .off => if v = 0 then s.setPump k { p with state := .disabled } else s
  | .starting | .running => if v = 0 then stopPump s k else s
  | .stopping | .tripped => s

/-- The states of the three pump sets. -/
def pumpStates (s : State) : List PumpState := s.supply.pumps.items.map (·.state)

/-- Every RUNNING pump set is sent a stop request (R87). -/
def stopRunning (s : State) : State :=
  [(0 : PumpId), 1, 2].foldl (fun t k => if (t.pump k).state = .running then stopPump t k else t) s

/-- The idle timer takes the idle time, and the RUNNING sets are stopped (R87). -/
def idleExpires (s : State) : State :=
  let t := stopRunning { s with arbiter := { s.arbiter with idleTimer := s.params.idleTime } }
  if pumpStates t = pumpStates s then t else pumpsChanged t

/-- The idle time changes: a timer below both values counts on; one that had not reached the old value and stands at or above
the new one expires at this event; one that stood at the old value takes the new one (R87). -/
def idleChanged (old : Nat) (s : State) : State :=
  let t := s.arbiter.idleTimer
  if t < old ∧ t < s.params.idleTime then s
  else if t < old then idleExpires s
  else { s with arbiter := { s.arbiter with idleTimer := s.params.idleTime } }

/-- What a change of ratings gives: an allocation where a set changed its state, and otherwise the recompute of A. -/
def ratingsTaken (before after : State) : State :=
  if pumpStates before = pumpStates after then syncAvailable after else pumpsChanged after

/-- The Supply Monitor takes the pump ratings of the image (R90, R180). -/
def takeRatings (s : State) : State :=
  ratingsTaken s ([(0 : PumpId), 1, 2].foldl (fun t k => setRating t k (t.store.copy.rated k)) s)

/-- The image state becomes VALID: every block takes the copy (R180). The idle timer, which has counted against the default
idle time until now, takes the image's as R87 has it take one from SET_PARAM (assumption log 32); what the derived hatches hand on is
taken for H1 first (assumption log 8). -/
def imageBecomesValid (s : State) : State :=
  let s := { s with store := { s.store with image := .valid } }
  rejudgeAll (allHatches.foldr (fun h s => deriveIfReady s h) (idleChanged Image.default.idleTime (takeRatings (buildTable s))))

/-- The read of the image fails: the copy stands at the defaults, every written mark is clear and the image is INVALID, also
where a SET_PARAM was taken while it was READING (R179; assumption log 27). -/
def imageFails (s : State) : State :=
  { s with store := { s.store with image := .invalid, copy := Image.default, written := Tbl.fill 949 false } }

/-- IMAGE_READ_END (R179): the copy takes the values read and the image is VALID when the check word agrees, the values
lie in their ranges and R178 holds; otherwise the defaults stand and it is INVALID. A memory that an unstored write has left
failing before a reset is found failing (R183). A write that has ended unstored while this read was under way does not decide
it: `checkAgrees` says what the read found (assumption log 16). -/
def execImageReadEnd (image : Image) (checkAgrees : Bool) (s : State) : Host.Outcome State Fault Refusal :=
  event (fun s =>
    if s.store.image = .reading then
      if checkAgrees && !s.store.memoryFailing && image.inRange && image.sound then
        imageBecomesValid { s with store := { s.store with copy := image } }
      else imageFails s
    else s) s

/-- IMAGE_READ_TIMEOUT (R179). -/
def execImageReadTimeout (s : State) : Host.Outcome State Fault Refusal :=
  quiet (fun s =>
    if s.store.image = .reading then imageFails s else s) s

end Sys2Proof.Machine
end

