-- ==== Sys2Proof/Machine/Holds.lean ====
section
/-!
DEFINITION. Machine/Holds.lean: PLACE_HOLD (R33 to R38) and LIFT_HOLD (R39 to R42).
-/

namespace Sys2Proof.Machine
open Sys2Proof

/-! ### PLACE_HOLD -/

/-- The panel operand: absent, PORT or STBD; none for another code. -/
def panelOperand : Nat → Option (Option Panel)
  | 0 => some none
  | 1 => some (some .port)
  | 2 => some (some .stbd)
  | _ => none

/-- Who may place which kind on which scope (R33). -/
def placeAuthority (n : StationId) (kind : HoldKind) (scope : BitVec 9) : Bool :=
  let own : Bool := scope = BitVec.ofNat 9 (2 ^ (n.val - 2))
  match kind, roleOf n with
  | .personnel, .bridge | .personnel, .cargo | .personnel, .service => true
  | .personnel, .local => own
  | .loader, .loader | .loader, .bridge | .loader, .cargo => true
  | .crane, .bridge | .crane, .cargo => true
  | .crane, .local => own
  | .lockout, .service | .lockout, .bridge => true
  | _, _ => false

/-- The id of a new entry: the lowest above the counter that no entry holds, and from 1 upward where there is none (R28). -/
def nextId (l : HoldList) : Nat :=
  let free (k : Nat) : Bool := l.entries.all fun e => e.id != k
  match ((List.range 255).map (· + 1)).find? (fun k => decide (l.counter < k) && free k) with
  | some k => k
  | none => (((List.range 255).map (· + 1)).find? free).getD 1

/-- What a new entry does to one hatch of its scope: a blocked step of a moving hatch is withdrawn and the hatch goes
STOPPING; a blocked RECLAMP is withdrawn and its cleats stay wanted (R37, R38). -/
def holdMeets (e : HoldEntry) (h : Hatch) (s : State) : State :=
  match (s.ctx h).step with
  | none => s
  | some t =>
    if e.blocks h (.step t.name) then
      match (s.ctx h).state with
      | .opening | .closing => stopStep s h (.held .hold)
      | .closed => reclampEvent (withdraw s h) h .reclampKept
      | .unknown | .open | .stopping | .held | .fault => s
    else s

/-- A jog that the new entry blocks ends (R38, R124). -/
def holdMeetsJog (e : HoldEntry) (s : State) : State :=
  match s.drive.jog with
  | some j => if e.blocks j.hatch (.jog j.channel) then jogEnd s else s
  | none => s

/-- A new entry joins the list (R35). DESIGN CHOICE (assumption log 34): R35 names the two that take it and R100 orders no two
withdrawals of one event; the Arbiter takes those of the blocked steps first, H1 to H9, and that of a blocked jog after them. -/
def placeEntry (s : State) (f : RxFrame) (kind : HoldKind) (panel : Option Panel) : State :=
  let id := nextId s.holds
  let e : HoldEntry := ⟨id, f.station, kind, f.scope, panel, 1, !(s.station f.station).present, s.uptime⟩
  let s := retain { s with holds := ⟨s.holds.entries ++ [e], id⟩ } .holds
  let s := reply s f .ok [byteOf id, byteOf 1]
  allHatches.foldr (holdMeets e) (holdMeetsJog e s)

/-- The entry that a placement matches, with its position (R27). -/
def matching (s : State) (n : StationId) (kind : HoldKind) (scope : BitVec 9) (panel : Option Panel) :
    Option HoldEntry :=
  s.holds.entries.find? fun e => e.owner = n && e.kind = kind && e.scope = scope && e.panel = panel

/-- The entry with an id takes another count, at its position (R36, R40). -/
def recount (s : State) (id count : Nat) : State :=
  retain { s with holds := { s.holds with
    entries := s.holds.entries.map fun e => if e.id = id then { e with count := count } else e } } .holds

/-- Rows 6 to 11 of R34. -/
def placeChecked (s : State) (f : RxFrame) (kind : HoldKind) (panel : Option Panel) : State :=
  if !placeAuthority f.station kind f.scope then reply s f .refusedAuthority
  else if s.retentionLost then reply s f .notReady
  else match matching s f.station kind f.scope panel with
    | some e =>
      if e.count = 15 then reply s f .countFull [byteOf e.id, byteOf 15]
      else reply (recount s e.id (e.count + 1)) f .merged [byteOf e.id, byteOf (e.count + 1)]
    | none =>
      if 48 ≤ s.holds.entries.length then reply s f .full else placeEntry s f kind panel

/-- The PLACE_HOLD request (R34). -/
def placeRequest (f : RxFrame) (s : State) : State :=
  if !s.imageValid then reply s f .notReady
  else if roleOf f.station = .monitor then reply s f .refusedAuthority
  else match holdKindOf (f.byte 2) with
    | none => reply s f .badValue
    | some kind =>
      if f.scope = 0 then reply s f .badValue
      else match panelOperand (f.byte 5) with
        | none => reply s f .badValue
        | some panel =>
          if panel.isSome && (kind != .crane || !oneHatch f.scope) then reply s f .badValue
          else placeChecked s f kind panel

/-- PLACE_HOLD (R34 to R38). -/
def execPlaceHold (s : State) : Host.Outcome State Fault Refusal := event (taking (ofKind kindPlaceHold) placeRequest) s

/-! ### LIFT_HOLD -/

/-- The removal of an entry by a lift: the Sequencer takes up what waited on holds in its scope (R42). -/
def removeHold (s : State) (e : HoldEntry) : State :=
  let s := retain { s with holds := { s.holds with entries := s.holds.entries.filter fun x => x.id != e.id } } .holds
  (allHatches.filter e.covers).foldr (fun h s => takeUp s h) s

/-- The owner's lift (R40). -/
def ownerLift (s : State) (f : RxFrame) (e : HoldEntry) : State :=
  if 1 < e.count then reply (recount s e.id (e.count - 1)) f .ok [byteOf e.id, byteOf (e.count - 1)]
  else removeHold (reply s f .ok [byteOf e.id, 0]) e

/-- A lift of a whole entry (R41). -/
def wholeLift (s : State) (f : RxFrame) (e : HoldEntry) : State := removeHold (reply s f .ok [byteOf e.id, 0]) e

/-- NOT_OWNER, with the entry's id, count and owner (R39, R190). -/
def notOwner (s : State) (f : RxFrame) (e : HoldEntry) : State :=
  reply s f .notOwner [byteOf e.id, byteOf e.count, byteOf e.owner.val]

/-- The LIFT_HOLD request, with the level of KEY_OVERRIDE at its taking (R39). -/
def liftRequest (keyOverrideClosed : Bool) (f : RxFrame) (s : State) : State :=
  let s := { s with keyOverride := keyOverrideClosed }
  if !s.imageValid then reply s f .notReady
  else if roleOf f.station = .monitor then reply s f .refusedAuthority
  else match s.holds.entries.find? fun e => e.id = f.byte 2 with
    | none => reply s f .unknownItem
    | some e =>
      if e.kind = .restart then (if roleOf f.station = .bridge then wholeLift s f e else notOwner s f e)
      else if f.station = e.owner then ownerLift s f e
      else if e.kind = .lockout then notOwner s f e
      else if roleOf f.station = .bridge && keyOverrideClosed then wholeLift s f e
      else notOwner s f e

/-- LIFT_HOLD (R39 to R42). -/
def execLiftHold (keyOverrideClosed : Bool) (s : State) : Host.Outcome State Fault Refusal :=
  event (taking (ofKind kindLiftHold) (liftRequest keyOverrideClosed)) s

end Sys2Proof.Machine
end

