-- ==== Sys2Proof/Machine/LinkPort.lean ====
section
/-!
DEFINITION. Machine/LinkPort.lean: the commands of the deck link itself (Chapter 8): the arrival of a frame and the presence
of a station (R161 to R163), UNKNOWN_REQUEST and PRESENCE (R164, R168), and the sending of answers and broadcasts (R166,
R172 to R174, R192).
-/

namespace Sys2Proof.Machine
open Sys2Proof

/-! ### Arrival and presence -/

/-- The station of a request identifier, 0x200 to 0x20D. -/
def requestStation (ident : Nat) : Option StationId :=
  if h : 0x200 ≤ ident ∧ ident ≤ 0x20D then some ⟨ident - 0x200, by omega⟩ else none

/-- A frame the Link Port accepts, as the request it carries (R161). -/
def acceptedRequest (f : CanFrame) : Option RxFrame :=
  if f.extended || f.remote || f.data.length != 8 then none
  else (requestStation f.ident).map fun n => ⟨n, eightBytes f.data⟩

/-- The entries of a station take ACTIVE or STALE with its presence (R29). -/
def markEntries (s : State) (n : StationId) (stale : Bool) : State :=
  { s with holds := { s.holds with
    entries := s.holds.entries.map fun e => if e.owner = n then { e with stale := stale } else e } }

/-- An accepted frame renews the presence of its station (R162). -/
def renewPresence (s : State) (n : StationId) : State :=
  let r := s.station n
  let s := s.setStation n { r with present := true, silence := 0 }
  if r.present then s else markEntries s n false

/-- An accepted frame joins the receive FIFO, or is dropped where it holds 16 (R163). -/
def joinFifo (s : State) (f : RxFrame) : State :=
  if s.link.rx.length < 16 then { s with link := { s.link with rx := s.link.rx ++ [f] } }
  else { s with link := { s.link with overrun := true, droppedSinceShip := true } }

/-- DECK_FRAME_ARRIVAL (R161 to R163). -/
def execDeckFrameArrival (frame : CanFrame) (s : State) : Host.Outcome State Fault Refusal :=
  quiet (fun s =>
    match acceptedRequest frame with
    | some f => joinFifo (renewPresence s f.station) f
    | none => s) s

/-- SILENCE_TIMER_EXPIRY (R162): the silence timer of a PRESENT station reaches 5.0 s. A frame of the same instant that was
taken first has returned the timer to 0; the station then stays PRESENT and nothing is handed on. -/
def execSilenceTimerExpiry (station : StationId) (s : State) : Host.Outcome State Fault Refusal :=
  quiet (fun s =>
    let r := s.station station
    if r.present && decide (0 < r.silence) then markEntries (s.setStation station { r with present := false, silence := 50 }) station true
    else s) s

/-! ### Requests the Link Port answers itself -/

/-- UNKNOWN_REQUEST: row 1 of R164, before the outstanding request is looked at. -/
def execUnknownRequest (s : State) : Host.Outcome State Fault Refusal :=
  quiet (fun s =>
    match takeable s with
    | none => s
    | some f => if kindKnown f.kind then s else reply (popped s) f .unknownRequest) s

/-- The data of a PRESENCE answer (R168, R190). -/
def presenceData (s : State) (n : StationId) : List Byte :=
  byteOf ((roleOf n).code * 16 + bit s.imageValid 2 + s.resetCause.code) :: bytes4 s.uptime

/-- PRESENCE (R168). -/
def execPresence (s : State) : Host.Outcome State Fault Refusal :=
  quiet (taking (ofKind kindPresence) fun f s => reply s f .ok (presenceData s f.station)) s

/-! ### Sending -/

/-- A ship frame that was built with the overrun flag set (R174, R192). -/
def TxFrame.shipWithOverrun (t : TxFrame) : Bool := t.ident = 0x30B && (t.data.get 0).getLsbD 5

/-- FRAME_SENT (R166, R174): the head of the transmit list has been carried and acknowledged. -/
def execFrameSent (s : State) : Host.Outcome State Fault Refusal :=
  quiet (fun s =>
    match s.link.tx with
    | [] => s
    | t :: ts =>
      { s with link := { s.link with
        tx := ts
        overrun := s.link.overrun && !(t.shipWithOverrun && !s.link.droppedSinceShip) } }) s

/-! ### Broadcasts (R173, R192) -/

/-- A panel position in 10 mm, or 65535 for INVALID (R192). -/
def positionTens (s : State) (h : Hatch) (p : Panel) : Nat :=
  match (s.panel h p).position with
  | some x => x / 10
  | none => 65535

/-- The held cause while HELD, the last fault cause while FAULT, 7 otherwise (R192). -/
def causeCode (c : HatchCtx) : Nat :=
  match c.state with
  | .held => (c.held.map HeldCause.code).getD 7
  | .fault => (c.lastFault.map FaultCause.code).getD 7
  | .unknown | .closed | .open | .opening | .closing | .stopping => 7

/-- The hatch frame of a hatch. -/
def hatchFrame (s : State) (h : Hatch) : TxFrame :=
  let c := s.ctx h
  let step := match c.step with
    | some t => t.name.code * 16 + t.phase.code
    | none => 0
  ⟨0x301 + h.val, eightBytes (
    [byteOf (c.state.code * 16 + causeCode c), byteOf step,
      byteOf ((s.table.verdict.get h).code * 16 + bit (s.blockedFlag h) 2 + bit c.mark 1)] ++
    bytes2 (positionTens s h .port) ++ bytes2 (positionTens s h .stbd))⟩

/-- The supply frame. -/
def supplyFrame (s : State) : TxFrame :=
  ⟨0x30A, eightBytes (bytes2 s.supply.available ++ bytes2 (supplyS s.supply.pumps) ++
    [byteOf ((s.pump 0).state.code * 16 + (s.pump 1).state.code), byteOf ((s.pump 2).state.code * 16),
      byteOf (supplyFlags s)])⟩

/-- The ship frame. -/
def shipFrame (s : State) : TxFrame :=
  ⟨0x30B, eightBytes (
    [byteOf (bit s.squallActive 1 + bit s.allSecured 2 + bit s.retentionLost 4 + bit s.imageValid 8 +
      s.resetCause.code * 16 + bit s.link.overrun 32)] ++
    bytes2 (latchBits s) ++ [byteOf s.holds.entries.length])⟩

/-- The eleven frames of a broadcast cycle, in order (R172). -/
def broadcastFrames (s : State) : List TxFrame := allHatches.map (hatchFrame s) ++ [supplyFrame s, shipFrame s]

/-- BROADCAST_CYCLE (R172): the broadcasts not yet sent leave the list, and the eleven new ones join its tail. -/
def execBroadcastCycle (s : State) : Host.Outcome State Fault Refusal :=
  quiet (fun s =>
    { s with link := { s.link with
      tx := s.link.tx.filter TxFrame.isAnswer ++ broadcastFrames s
      droppedSinceShip := false } }) s

end Sys2Proof.Machine
end

