-- ==== Sys2Proof/Machine/Look.lean ====
section
/-!
DEFINITION. Machine/Look.lean: the LOOK and FIND commands: the parts of each record as strings of bytes (R191), the checks of
each owner (R20, R43, R108, R144, R170, R171, R184) and the two searches (R21, R22, R44).
-/

namespace Sys2Proof.Machine
open Sys2Proof

/-! ### The LOOK frame (R190, R191) -/

def RxFrame.lookClass (f : RxFrame) : Nat := f.byte 2
def RxFrame.lookPart (f : RxFrame) : Nat := f.byte 3
def RxFrame.lookSegment (f : RxFrame) : Nat := f.byte 4

/-- One segment of a part, or BAD_VALUE where its number lies beyond the part (R191). -/
def answerSegment (s : State) (f : RxFrame) (part : List Byte) : State :=
  let k := f.lookSegment
  if 5 * k < part.length then reply s f .ok ((part.drop (5 * k)).take 5) else reply s f .badValue

/-- A record of a class without parts: part 0 alone, tested before the segment (R191). -/
def answerWhole (s : State) (f : RxFrame) (part : List Byte) : State :=
  if f.lookPart = 0 then answerSegment s f part else reply s f .badValue

/-- The frame is a LOOK of one class. -/
def isLook (cls : Nat) (f : RxFrame) : Bool := decide (f.kind = kindLook) && decide (f.lookClass = cls)

/-- A LOOK of a class outside the table of R169 is taken by whichever LOOK command meets it, and answered BAD_VALUE
(assumption log 14). -/
def lookOrOther (cls : Nat) (f : RxFrame) : Bool :=
  isLook cls f || (decide (f.kind = kindLook) && decide (6 < f.lookClass))

/-- The owner of one class answers its own LOOK; the Link Port answers a class outside the table (R169). -/
def lookAnswer (owner : State → RxFrame → State) (f : RxFrame) (s : State) : State :=
  if 6 < f.lookClass then reply s f .badValue else owner s f

/-! ### CLEAT (R20) -/

/-- Part 0, standing. -/
def cleatStanding : Option CleatRec → List Byte
  | none => [byteOf 3, 0, 0, 0, 0]
  | some r =>
    [byteOf r.service.code, byteOf r.verdict.code, byteOf (r.wanted.code * 16 + r.tries),
      byteOf (bit r.manual 1 + bit r.sensor 2 + bit r.mismatch 4 + bit r.lost 8 + bit r.confirmation.isSome 16 +
        bit r.retirement.isSome 32),
      byteOf r.faultCount]

/-- Part 1, confirmation. -/
def cleatConfirmation (r : Option CleatRec) : List Byte :=
  match r.bind (·.confirmation) with
  | none => [byteOf 0xF0, 0, 0, 0, 0]
  | some c => byteOf (bit (!c.fastened) 16 + c.station.val) :: bytes4 c.time

/-- Part 2, retirement. -/
def cleatRetirement (r : Option CleatRec) : List Byte :=
  match r.bind (·.retirement) with
  | none => [0, 0, 0, 0, 0]
  | some t => byteOf (128 + t.station.val) :: bytes4 t.time

/-- Four samples in one byte, newest in bits 7 and 6. -/
def sampleByte (l : List Sample) : Byte :=
  let pair (k : Nat) : Nat :=
    match l[k]? with
    | some x => bit x.first 2 + bit x.second 1
    | none => 0
  byteOf (pair 0 * 64 + pair 1 * 16 + pair 2 * 4 + pair 3)

/-- Part 3, history. -/
def cleatHistory (r : Option CleatRec) : List Byte :=
  let l := (r.map (·.history)).getD []
  [byteOf l.length, sampleByte l, sampleByte (l.drop 4)]

/-- A LOOK naming a cleat record (R20). -/
def lookCleatAt (s : State) (f : RxFrame) : State :=
  match cleatOf (f.word 6) with
  | none => reply s f .unknownItem
  | some id =>
    match f.lookPart with
    | 0 => answerSegment s f (cleatStanding (s.slot id))
    | 1 => answerSegment s f (cleatConfirmation (s.slot id))
    | 2 => answerSegment s f (cleatRetirement (s.slot id))
    | 3 => answerSegment s f (cleatHistory (s.slot id))
    | _ => reply s f .badValue

/-- LOOK_CLEAT (R20). -/
def execLookCleat (s : State) : Host.Outcome State Fault Refusal :=
  quiet (taking (lookOrOther 0) (lookAnswer lookCleatAt)) s

/-! ### HOLD (R43) -/

def staleCode (e : HoldEntry) : Nat := bit e.stale 1

/-- A hold entry at a position. -/
def holdPart (pos : Nat) (e : HoldEntry) : List Byte :=
  [byteOf pos, byteOf e.id, byteOf e.owner.val, byteOf e.kind.code] ++ bytes2 e.scope.toNat ++
    [byteOf (panelCode e.panel), byteOf e.count, byteOf (staleCode e)] ++ bytes4 e.placed

/-- A LOOK naming a hold record by position (selector 0) or by id (selector 1); another selector is refused BAD_VALUE
(R43; assumption log 13). -/
def lookHoldAt (s : State) (f : RxFrame) : State :=
  let key := f.byte 6
  match f.byte 5 with
  | 0 =>
    if 47 < key then reply s f .badValue
    else match s.holds.entries[key]? with
      | none => reply s f .notFound
      | some e => answerWhole s f (holdPart key e)
  | 1 =>
    match s.holds.entries.findIdx? (fun e => e.id = key) with
    | none => reply s f .unknownItem
    | some pos =>
      match s.holds.entries[pos]? with
      | none => reply s f .unknownItem
      | some e => answerWhole s f (holdPart pos e)
  | _ => reply s f .badValue

/-- LOOK_HOLD (R43). -/
def execLookHold (s : State) : Host.Outcome State Fault Refusal :=
  quiet (taking (lookOrOther 1) (lookAnswer lookHoldAt)) s

/-! ### HATCH (R170) -/

def groupBits (g : Groups) : Nat := bit g.port 1 + bit g.stbd 2 + bit g.cross 4

/-- Part 0, sequence. -/
def hatchSequence (s : State) (h : Hatch) : List Byte :=
  let c := s.ctx h
  let step : List Byte := match c.step with
    | none => [0, 0, 0, 0, 0, 0, 0] ++ bytes2 65535
    | some t =>
      [byteOf t.name.code, byteOf t.cls.code, byteOf t.phase.code] ++ bytes2 t.elapsed ++
        bytes2 ((t.grant.map (·.share)).getD 0) ++ bytes2 ((t.grant.bind (·.roll)).getD 65535)
  [byteOf c.state.code, byteOf ((c.held.map HeldCause.code).getD 7), byteOf (nextCode c.next), byteOf c.faults.toNat,
    byteOf ((c.lastFault.map FaultCause.code).getD 7)] ++ step ++
    [byteOf (bit c.mark 1 + bit (s.blockedFlag h) 2), byteOf (groupBits (reclampSet s h))]

/-- The reason of a securing verdict (R191). -/
def reasonCode : Option Reason → Nat
  | some (.cleat id) => id.val
  | some .retiredExcess => 65532
  | some .panelPort => 65533
  | some .panelStbd => 65534
  | none => 65535

/-- Part 1, securing and supply. -/
def hatchSecuring (s : State) (h : Hatch) : List Byte :=
  let coils := (allChannels.map fun c => bit (s.channel h c).coilFault (2 ^ c.code)).sum
  let jog : List Byte :=
    match s.drive.jog with
    | some j => if j.hatch = h then [byteOf j.channel.code, byteOf j.phase.code] else [byteOf 255, 0]
    | none => [byteOf 255, 0]
  [byteOf (s.table.verdict.get h).code] ++ bytes2 (reasonCode (s.table.reason.get h)) ++
    [byteOf (bit (s.stops.latch.get h) 1 + bit s.stops.estopLatch 2), byteOf (bit (s.vsupOn h) 1), byteOf coils] ++ jog

/-- A LOOK naming a hatch (R170). -/
def lookHatchAt (s : State) (f : RxFrame) : State :=
  match hatchOf (f.byte 5) with
  | none => reply s f .unknownItem
  | some h =>
    match f.lookPart with
    | 0 => answerSegment s f (hatchSequence s h)
    | 1 => answerSegment s f (hatchSecuring s h)
    | _ => reply s f .badValue

/-- LOOK_HATCH (R170). -/
def execLookHatch (s : State) : Host.Outcome State Fault Refusal :=
  quiet (taking (lookOrOther 2) (lookAnswer lookHatchAt)) s

/-! ### SUPPLY (R108) -/

def pendingByte (e : Entry) : Byte := byteOf (hatchNumber e.hatch * 16 + e.cls.code * 4 + bit e.shed 1)

def grantedBytes (g : Granted) : List Byte := byteOf (hatchNumber g.entry.hatch) :: bytes2 g.grant.share

/-- A string of bytes of a given length, filled with 0. -/
def padded (n : Nat) (l : List Byte) : List Byte := (l ++ List.replicate n 0).take n

/-- Record 0, the supply. -/
def supplyPart (s : State) : List Byte :=
  bytes2 (supplyS s.supply.pumps) ++ bytes2 (derate s) ++ [byteOf s.params.reserve] ++ bytes2 s.supply.available ++
    [byteOf (supplyFlags s), byteOf s.arbiter.pending.length] ++ padded 9 (s.arbiter.pending.map pendingByte) ++
    [byteOf s.arbiter.granted.length] ++ padded 27 (s.arbiter.granted.flatMap grantedBytes)

/-- Records 1 to 3, the pump sets. A present run feedback is 1 (assumption log 4). -/
def pumpPart (s : State) (k : PumpId) : List Byte :=
  let p := s.pump k
  [byteOf p.state.code] ++ bytes2 p.rated ++
    [byteOf (bit (s.startLine k) 1), byteOf (bit p.feedback 1), byteOf (tripCauseCode p.cause)] ++ bytes2 p.timer

/-- A LOOK naming a supply record (R108). -/
def lookSupplyAt (s : State) (f : RxFrame) : State :=
  if f.byte 5 = 0 then answerWhole s f (supplyPart s)
  else match pumpOf (f.byte 5) with
    | some k => answerWhole s f (pumpPart s k)
    | none => reply s f .unknownItem

/-- LOOK_SUPPLY (R108). -/
def execLookSupply (s : State) : Host.Outcome State Fault Refusal :=
  quiet (taking (lookOrOther 3) (lookAnswer lookSupplyAt)) s

/-! ### SENSING (R144) -/

def panelPart (p : PanelSense) : List Byte :=
  bytes2 (p.position.getD 65535) ++ signed2 (p.speed.getD (-32768)) ++ [byteOf p.jack.code] ++ bytes2 p.rejectTotal

/-- Records 1 to 9, the junctions. -/
def junctionPart (j : Junction) : List Byte :=
  [byteOf j.state.code, byteOf j.misses] ++ bytes2 j.frameErrors ++ bytes2 j.missedScans ++
    panelPart j.panels.port ++ panelPart j.panels.stbd

/-- Records 10 to 13, the analog channels. -/
def analogPart (r : AnalogRec) : List Byte :=
  bytes2 r.code ++ signed2 (r.value.getD (-32768)) ++ [byteOf (bit r.fault 1)] ++ bytes2 r.faultCount

/-- A LOOK naming a sensing record (R144). -/
def lookSensingAt (s : State) (f : RxFrame) : State :=
  match hatchOf (f.byte 5) with
  | some h => answerWhole s f (junctionPart (s.junctions.get h))
  | none =>
    match f.byte 5 with
    | 10 => answerWhole s f (analogPart s.analog.pressure)
    | 11 => answerWhole s f (analogPart s.analog.temperature)
    | 12 => answerWhole s f (analogPart s.analog.heel)
    | 13 => answerWhole s f (analogPart s.analog.wind)
    | _ => reply s f .unknownItem

/-- LOOK_SENSING (R144). -/
def execLookSensing (s : State) : Host.Outcome State Fault Refusal :=
  quiet (taking (lookOrOther 4) (lookAnswer lookSensingAt)) s

/-! ### STATION (R171) -/

/-- A station record, with the receive FIFO's count and overrun flag. The asking station's outstanding request is this LOOK
itself, which is present until its answer (R165; assumption log 25). PRESENT is 1 (assumption log 4). -/
def stationPart (s : State) (f : RxFrame) (n : StationId) : List Byte :=
  let r := s.station n
  let out : List Byte :=
    if n = f.station then [f.data.get 0, f.data.get 1]
    else match r.outstanding with
      | some o => [o.kind, o.tag]
      | none => [0, 0]
  [byteOf (roleOf n).code, byteOf (bit r.present 1), byteOf r.silence] ++ out ++
    [byteOf s.link.rx.length, byteOf (bit s.link.overrun 1)]

/-- A LOOK naming a station (R171). -/
def lookStationAt (s : State) (f : RxFrame) : State :=
  if h : f.byte 5 < 16 then answerWhole s f (stationPart s f ⟨f.byte 5, h⟩) else reply s f .unknownItem

/-- LOOK_STATION (R171). -/
def execLookStation (s : State) : Host.Outcome State Fault Refusal :=
  quiet (taking (lookOrOther 5) (lookAnswer lookStationAt)) s

/-! ### PARAM (R184) -/

/-- The places whose written mark is clear; none while the image is VALID (R184). -/
def clearPlaces (s : State) : List Nat :=
  if s.imageValid then [] else (List.finRange 949).filterMap fun k => if s.store.written.get k then none else some k.val

/-- An item byte and two index bytes, or zeros. -/
def itemBytes (i : Option (Nat × Nat)) : List Byte :=
  match i with
  | some (item, idx) => byteOf item :: bytes2 idx
  | none => [0, 0, 0]

/-- The written mark of an item and index. -/
def writtenMark (s : State) (item idx : Nat) : Bool :=
  if h : itemPlace item idx < 949 then s.store.written.get ⟨itemPlace item idx, h⟩ else false

/-- The PARAM record of an item and index. -/
def paramPart (s : State) (item idx : Nat) : List Byte :=
  let clear := clearPlaces s
  signed2 (s.store.copy.item item idx) ++ signed2 (Image.default.item item idx) ++
    [byteOf (bit (writtenMark s item idx) 1), byteOf s.store.image.code] ++ bytes2 clear.length ++
    itemBytes (clear.head?.map placeItem) ++ itemBytes (s.store.write.map fun w => (w.item, w.index)) ++
    itemBytes s.store.unsaved

/-- A LOOK naming an item of the configuration (R184). -/
def lookParamAt (s : State) (f : RxFrame) : State :=
  if itemExists (f.byte 5) (f.word 6) then answerWhole s f (paramPart s (f.byte 5) (f.word 6))
  else reply s f .unknownItem

/-- LOOK_PARAM (R184). -/
def execLookParam (s : State) : Host.Outcome State Fault Refusal :=
  quiet (taking (lookOrOther 6) (lookAnswer lookParamAt)) s

/-! ### FIND (R21, R22, R44, R169) -/

/-- A FIND of one class, or of a class that has no FIND, which is answered BAD_VALUE by whichever FIND command meets it
(R169; assumption log 14). -/
def findOrOther (cls : Nat) (f : RxFrame) : Bool :=
  decide (f.kind = kindFind) && (decide (f.lookClass = cls) || decide (1 < f.lookClass))

/-- The owner of one class answers its own FIND; any other class is answered BAD_VALUE (R169). -/
def findAnswer (owner : State → RxFrame → State) (f : RxFrame) (s : State) : State :=
  if 1 < f.lookClass then reply s f .badValue else owner s f

/-- Whether a record matches a FIND filter (R22). -/
def CleatRec.matchesFilter (r : CleatRec) : Nat → Bool
  | 0 => (r.isHydraulic && r.verdict != .engaged) || (r.byHand && !r.isFastened) || r.mismatch
  | 1 => r.verdict = .sensorFault || r.lost
  | 2 => r.service = .retired
  | 3 => r.service = .handSet
  | 4 => r.byHand && r.confirmation.isNone
  | 5 => decide (16 ≤ r.faultCount)
  | _ => false

/-- The lowest id from a start that matches a filter, with its record (R21). -/
def findCleatFrom (s : State) (start filter : Nat) : Option (CleatId × CleatRec) :=
  (List.finRange 288).findSome? fun id =>
    match s.slot id with
    | some r => if start ≤ id.val ∧ r.matchesFilter filter then some (id, r) else none
    | none => none

/-- A FIND naming the cleat records (R21). -/
def findCleatAt (s : State) (f : RxFrame) : State :=
  if !s.imageValid then reply s f .notReady
  else if 287 < f.word 3 then reply s f .unknownItem
  else if 5 < f.byte 5 then reply s f .badValue
  else match findCleatFrom s (f.word 3) (f.byte 5) with
    | none => reply s f .notFound
    | some (id, r) => reply s f .ok (bytes2 id.val ++ [byteOf r.service.code, byteOf r.verdict.code])

/-- FIND_CLEAT (R21). -/
def execFindCleat (s : State) : Host.Outcome State Fault Refusal :=
  quiet (taking (findOrOther 0) (findAnswer findCleatAt)) s

/-- Whether an entry matches the hatch of a FIND: 0 matches every entry (R44). -/
def HoldEntry.found (e : HoldEntry) (n : Nat) : Bool :=
  match hatchOf n with
  | some h => e.covers h
  | none => decide (n = 0)

/-- A FIND naming the hold records (R44). -/
def findHoldAt (s : State) (f : RxFrame) : State :=
  let start := f.word 3
  if !s.imageValid then reply s f .notReady
  else if 47 < start ∨ 9 < f.byte 5 then reply s f .badValue
  else match (s.holds.entries.zipIdx.find? fun x => decide (start ≤ x.2) && x.1.found (f.byte 5)) with
    | none => reply s f .notFound
    | some (e, pos) =>
      reply s f .ok [byteOf pos, byteOf e.id, byteOf e.kind.code, byteOf e.count, byteOf (staleCode e)]

/-- FIND_HOLD (R44). -/
def execFindHold (s : State) : Host.Outcome State Fault Refusal :=
  quiet (taking (findOrOther 1) (findAnswer findHoldAt)) s

end Sys2Proof.Machine
end

