-- ==== Sys2Proof/Machine/Motion.lean ====
section
/-!
DEFINITION. Machine/Motion.lean: MOVE (R73, R74), HALT (R75, R76), ACK_FAULT (R77, R119), and the two timers of a step
(R56, R68, R157).
-/

namespace Sys2Proof.Machine
open Sys2Proof

/-! ### MOVE -/

/-- BRIDGE, CARGO, or the LOCAL station of the hatch. -/
def moveAuthority (n : StationId) (h : Hatch) : Bool :=
  roleOf n = .bridge || roleOf n = .cargo || n = localStation h

/-- Row 7 of R73. -/
def moveBusy (s : State) (h : Hatch) (opening : Bool) : Bool :=
  jogOn s h || (s.ctx h).state = .stopping ||
  ((s.ctx h).state = .opening && !opening) || ((s.ctx h).state = .closing && opening)

/-- Row 8 of R73. -/
def moveAlready (s : State) (h : Hatch) (opening : Bool) : Bool :=
  if opening then
    (s.ctx h).state = .open || (s.ctx h).state = .opening || ((s.ctx h).state = .held && (openingStart s h).isNone)
  else
    (s.ctx h).state = .closing ||
    ((s.ctx h).state = .closed && ((s.table.verdict.get h).isSecured || hasReclamp s h))

/-- Row 9 of R73: a hand cleat of the hatch is fastened. -/
def handFastened (s : State) (h : Hatch) : Bool :=
  (hatchRecords s h).any fun r => r.2.byHand && (r.2.isFastened || (r.2.sensor && r.2.verdict = .engaged))

/-- The start step of R62 for a direction. -/
def moveStart (s : State) (h : Hatch) (opening : Bool) : Option StepName :=
  if opening then openingStart s h else some (closingStart s h)

/-- Rows 2 to 11 of R73. A CLOSED hatch whose panels are sensed stowed and LOWERED has no start step for OPEN; it is answered
ALREADY and does not change (assumption log 12). -/
def moveCode (s : State) (n : StationId) (h : Hatch) (opening : Bool) : Code :=
  if !moveAuthority n h then .refusedAuthority
  else if !s.imageValid || (s.ctx h).state = .unknown || !sensingUsable s h then .notReady
  else if (s.ctx h).state = .fault then .faulted
  else if s.tripped h then .tripped
  else if opening && (s.ctx h).mark then .squallActive
  else if moveBusy s h opening then .busy
  else if moveAlready s h opening then .already
  else if opening && handFastened s h then .manualFastened
  else match moveStart s h opening with
    | none => .already
    | some t => if isBlocked s h (.step t) then .blocked else .accepted

/-- The actions of a MOVE answered ACCEPTED; wanted cleared goes with the withdrawal of a RECLAMP (R74; assumption log 28). -/
def acceptMove (s : State) (h : Hatch) (opening : Bool) (t : StepName) : State :=
  let s := if opening && hasReclamp s h then reclampEvent s h .wantedCleared else s
  joinInPlace (enterState s h (if opening then .opening else .closing) none none) h t

/-- A MOVE on a hatch that exists, with a direction that exists. -/
def moveHatch (f : RxFrame) (h : Hatch) (opening : Bool) (s : State) : State :=
  match moveCode s f.station h opening, moveStart s h opening with
  | .accepted, some t => acceptMove (s.push [.answer f .accepted t.code]) h opening t
  | .already, none =>
    let s := s.push [.answer f .already 0]
    if opening && (s.ctx h).state = .held then enterState s h .open none none else s
  | code, _ => s.push [.answer f code 0]

/-- The MOVE request (R73). -/
def moveRequest (f : RxFrame) (s : State) : State :=
  match hatchOf (f.byte 2), f.byte 3 with
  | some h, 0 => moveHatch f h true s
  | some h, 1 => moveHatch f h false s
  | _, _ => s.push [.answer f .unknownItem 0]

/-- MOVE (R73, R74). -/
def execMove (s : State) : Host.Outcome State Fault Refusal := event (taking (ofKind kindMove) moveRequest) s

/-! ### HALT -/

/-- A HALT stops something on the hatch: a motion, a RECLAMP or a jog (R75, R76). -/
def haltStops (s : State) (h : Hatch) : Bool :=
  (s.ctx h).state = .opening || (s.ctx h).state = .closing || ((s.ctx h).state = .closed && hasReclamp s h) || jogOn s h

/-- The Sequencer's action of a HALT on one hatch (R75). -/
def haltMotion (s : State) (h : Hatch) : State :=
  match (s.ctx h).state with
  | .opening | .closing => stopStep s h (.held .halt)
  | .closed => if hasReclamp s h then reclampEvent (withdraw s h) h .reclampAbandoned else s
  | .stopping =>
    s.updCtx h fun c => { c with next := if c.next = some .closing then some (.held .halt) else c.next }
  | .unknown | .open | .held | .fault => s

/-- A HALT on one hatch: the mark, the end of a jog, and the motion. Hand-offs are taken last pushed first, so the entry of a
withdrawn step or of a jog at rest leaves, and what it frees is shared out, before a cleared mark lets a RECLAMP be requested; the
request then finds the hatch without an entry (R75, R76, R96, R151). -/
def haltHatch (h : Hatch) (s : State) : State := haltMotion (jogEndOn (clearMark s h) h) h

/-- Row 2 of R75: who may halt what. -/
def haltAuthority (n : StationId) (target : Option Hatch) : Bool :=
  match roleOf n with
  | .bridge | .cargo | .loader | .service => true
  | .local => match target with
    | some h => n = localStation h
    | none => false
  | .monitor | .none => false

/-- The HALT request (R75). -/
def haltRequest (f : RxFrame) (s : State) : State :=
  let n := f.byte 2
  if 9 < n then s.push [.answer f .unknownItem 0]
  else if !haltAuthority f.station (hatchOf n) then s.push [.answer f .refusedAuthority 0]
  else if !s.imageValid then s.push [.answer f .notReady 0]
  else match hatchOf n with
    | some h => haltHatch h (s.push [.answer f (if haltStops s h then .ok else .already) 0])
    | none => allHatches.foldr haltHatch (s.push [.answer f .ok (allHatches.filter (haltStops s)).length])

/-- HALT (R75, R76). -/
def execHalt (s : State) : Host.Outcome State Fault Refusal := event (taking (ofKind kindHalt) haltRequest) s

/-! ### ACK_FAULT -/

/-- BRIDGE, CARGO, SERVICE, or the LOCAL station of the hatch. -/
def ackAuthority (n : StationId) (h : Hatch) : Bool := moveAuthority n h || roleOf n = .service

/-- A coil mismatch is present on a channel of the hatch (R116). -/
def mismatchPresent (s : State) (h : Hatch) : Bool := allChannels.any fun c => (s.channel h c).mismatch != .none

/-- The Valve Drive takes the acknowledgement (R119). -/
def ackValves (s : State) (h : Hatch) : State :=
  let s := s.updChannels h fun _ r => { r with coilFault := false, mismatchTimer := 0 }
  { s with drive := { s.drive with cut := s.drive.cut.set h false } }

/-- The ACK_FAULT request (R77). -/
def ackFaultRequest (f : RxFrame) (s : State) : State :=
  match hatchOf (f.byte 2) with
  | none => s.push [.answer f .unknownItem 0]
  | some h =>
    if !ackAuthority f.station h then s.push [.answer f .refusedAuthority 0]
    else if !s.imageValid then s.push [.answer f .notReady 0]
    else if (s.ctx h).state != .fault then s.push [.answer f .already 0]
    else if !sensingUsable s h || mismatchPresent s h then s.push [.answer f .notReady 0]
    else takeUp (derive (ackValves (s.push [.answer f .ok 0]) h) h .ack) h

/-- ACK_FAULT (R77, R119). -/
def execAckFault (s : State) : Host.Outcome State Fault Refusal := event (taking (ofKind kindAckFault) ackFaultRequest) s

/-! ### The timers of a step -/

/-- The timeout of a RECLAMP (R157). -/
def reclampTimeout (s : State) (h : Hatch) : State :=
  removeEntry ((reclampEvent (dropStep s h) h .reclampTimedOut).push [.boundary h .reclamp]) h

/-- STEP_TIMEOUT (R56, R157): the step timer of an ACTIVE step expires. Where the done condition of the step before it was met first
in the same instant, that timer is gone, and the step just granted has none that has counted: nothing changes (assumption log 2). -/
def execStepTimeout (hatch : Hatch) (s : State) : Host.Outcome State Fault Refusal :=
  event (fun s =>
    match (s.ctx hatch).step with
    | some t =>
      if t.phase = .active && decide (0 < t.elapsed) then
        if t.name = .reclamp then reclampTimeout s hatch else faultHatch s hatch .stepTimeout
      else s
    | none => s) s

/-- STALL (R68): the stall timer of a panel reaches the stall time. -/
def execStall (hatch : Hatch) (panel : Panel) (s : State) : Host.Outcome State Fault Refusal :=
  event (fun s => if stallCounts s hatch panel then faultHatch s hatch .stall else s) s

end Sys2Proof.Machine
end

