-- ==== Sys2Proof/Machine/Pumps.lean ====
section
/-!
DEFINITION. Machine/Pumps.lean: the Supply Monitor's commands and the Arbiter's two timers: run feedback (R82 to R84), the
timers of R82, R83 and R91, the idle policy and the one-pump reduction (R87, R88), and ACK_PUMP (R85).
-/

namespace Sys2Proof.Machine
open Sys2Proof

/-! ### Run feedback -/

/-- OFF, or DISABLED where the rated flow is 0 (R83, R85). -/
def restState (p : Pump) : PumpState := if p.rated = 0 then .disabled else .off

/-- The idle timer stands at the idle time with both collections empty (R87). -/
def idleReached (s : State) : Bool := s.arbiter.isEmpty && decide (s.params.idleTime ≤ s.arbiter.idleTimer)

/-- A STARTING set becomes RUNNING; in the idle period it is stopped at once (R82, R87). -/
def pumpRuns (s : State) (k : PumpId) : State :=
  let s := s.setPump k { s.pump k with state := .running, age := 0 }
  pumpsChanged (if idleReached s then stopPump s k else s)

/-- The run feedback of a set has become present or absent; its record holds the new level (R82 to R84). -/
def feedbackChanged (s : State) (k : PumpId) : State :=
  let p := s.pump k
  match p.state, p.feedback with
  | .starting, true => pumpRuns s k
  | .off, true => pumpsChanged (tripPump s k .failToStop)
  | .running, false => pumpsChanged (tripPump s k .runLost)
  | .stopping, false => pumpsChanged (s.setPump k { p with state := restState p })
  | _, _ => s

/-- RUN_FEEDBACK_CHANGE (R82 to R84): in reset only the level of the line changes, which the end of the reset reads. -/
def execRunFeedbackChange (pump : PumpId) (present : Bool) (s : State) : Host.Outcome State Fault Refusal :=
  .next <|
    let t := s.setPump pump { s.pump pump with feedback := present }
    if (s.pump pump).feedback = present then s
    else if s.inReset then t
    else settle (feedbackChanged t pump)

/-! ### Timers of a pump set -/

/-- FAIL_TO_START (R82): the state timer of a STARTING set reaches 15.0 s with its feedback absent. -/
def execFailToStart (pump : PumpId) (s : State) : Host.Outcome State Fault Refusal :=
  event (fun s =>
    let p := s.pump pump
    if p.state = .starting && !p.feedback then
      pumpsChanged (tripPump (s.setPump pump { p with timer := 150 }) pump .failToStart)
    else s) s

/-- FAIL_TO_STOP (R83): the state timer of a STOPPING set reaches 10.0 s with its feedback present. -/
def execFailToStop (pump : PumpId) (s : State) : Host.Outcome State Fault Refusal :=
  event (fun s =>
    let p := s.pump pump
    if p.state = .stopping && p.feedback then
      pumpsChanged (tripPump (s.setPump pump { p with timer := 100 }) pump .failToStop)
    else s) s

/-- RUN_AGE_EXPIRY (R81, R91): the run age of a RUNNING set reaches 5.0 s. -/
def execRunAgeExpiry (pump : PumpId) (s : State) : Host.Outcome State Fault Refusal :=
  quiet (fun s =>
    let p := s.pump pump
    if p.state = .running then s.setPump pump { p with age := 50 } else s) s

/-! ### Pressure timers (R91) -/

/-- LOW_TIMER_EXPIRY (R91): the low timer reaches 3.0 s. -/
def execLowTimerExpiry (s : State) : Host.Outcome State Fault Refusal :=
  event (fun s =>
    if lowCounts s then
      syncAvailable { s with supply := { s.supply with lowPressure := true, lowPressureSeen := true, lowTimer := 30 } }
    else s) s

/-- RECOVERY_TIMER_EXPIRY (R91): the recovery timer reaches 3.0 s. -/
def execRecoveryTimerExpiry (s : State) : Host.Outcome State Fault Refusal :=
  event (fun s =>
    if recoveryCounts s then
      syncAvailable { s with supply := { s.supply with lowPressure := false, recoveryTimer := 0 } }
    else s) s

/-! ### Idle policy and reduction (R87, R88) -/

/-- IDLE_TIMER_EXPIRY (R87): the idle timer reaches the idle time. One that an entry of the same instant has returned to 0 goes on
(assumption log 2). -/
def execIdleTimerExpiry (s : State) : Host.Outcome State Fault Refusal :=
  event (fun s =>
    if s.arbiter.isEmpty && decide (0 < s.arbiter.idleTimer ∧ s.arbiter.idleTimer < s.params.idleTime) then idleExpires s
    else s) s

/-- REDUCTION_TIMER_EXPIRY (R88): the reduction timer reaches the idle time. One that a change of the same instant has returned to 0,
as that of the highest set, goes on (assumption log 2). -/
def execReductionTimerExpiry (s : State) : Host.Outcome State Fault Refusal :=
  event (fun s =>
    match reductionFor s with
    | some k =>
      if s.arbiter.reductionSet = some k ∧ 0 < s.arbiter.reductionTimer then
        pumpsChanged (stopPump { s with arbiter := { s.arbiter with reductionTimer := 0 } } k)
      else s
    | none => s) s

/-! ### ACK_PUMP (R85) -/

/-- BRIDGE, CARGO or SERVICE. -/
def ackPumpAuthority (n : StationId) : Bool := roleOf n = .bridge || roleOf n = .cargo || roleOf n = .service

/-- The frame is an ACK_PUMP that names 0, or one that names another number. -/
def isAckPump (flags : Bool) (f : RxFrame) : Bool := decide (f.kind = kindAckPump) && (decide (f.byte 2 = 0) == flags)

/-- ACK_PUMP naming a pump set (R85, rows 1 to 3 and 7 to 9). -/
def ackPumpRequest (f : RxFrame) (s : State) : State :=
  let answer (c : Code) : State := s.push [.answer f c 0]
  if !s.imageValid then answer .notReady
  else match pumpOf (f.byte 2) with
    | none => answer .unknownItem
    | some k =>
      let p := s.pump k
      if !ackPumpAuthority f.station then answer .refusedAuthority
      else if p.state != .tripped then answer .already
      else if p.feedback then answer .notReady
      else pumpsChanged ((answer .ok).setPump k { p with state := restState p, cause := none })

/-- ACK_PUMP of a pump set (R85). -/
def execAckPump (s : State) : Host.Outcome State Fault Refusal := event (taking (isAckPump false) ackPumpRequest) s

/-- ACK_PUMP naming 0 (R85, rows 1 and 3 to 6). -/
def ackFlagsRequest (f : RxFrame) (s : State) : State :=
  if !s.imageValid then replyStanding s f .notReady 0
  else if !ackPumpAuthority f.station then replyStanding s f .refusedAuthority 0
  else if s.supply.lowPressure || s.supply.overtemp then replyStanding s f .notReady 0
  else if !s.supply.lowPressureSeen && !s.supply.overtempSeen then replyStanding s f .already 0
  else replyStanding { s with supply := { s.supply with lowPressureSeen := false, overtempSeen := false } } f .ok 0

/-- ACK_PUMP of the sticky flags (R85). -/
def execAckPumpFlags (s : State) : Host.Outcome State Fault Refusal := quiet (taking (isAckPump true) ackFlagsRequest) s

end Sys2Proof.Machine
end

