-- ==== Sys2Proof/Machine/Sensing.lean ====
section
/-!
DEFINITION. Machine/Sensing.lean: SCAN and JUNCTION_FRAME (R131 to R139, R193, with the cleat samples of R4 to R8), and
ANALOG_SAMPLE (R140 to R143, R91, R92).
-/

namespace Sys2Proof.Machine
open Sys2Proof

/-! ### The junction frame (R193) -/

/-- One bit of the CRC-8 of R193: polynomial x⁸ + x² + x + 1, most significant bit first. -/
def crcShift (c : Byte) : Byte := if c.msb then (c <<< 1) ^^^ 7 else c <<< 1

/-- One byte of the CRC-8. -/
def crcByte (c b : Byte) : Byte := crcShift (crcShift (crcShift (crcShift (crcShift (crcShift (crcShift (crcShift (c ^^^ b))))))))

/-- The CRC-8 over a string of bytes, from a starting value of all ones (R193). -/
def crc8 (bs : List Byte) : Byte := bs.foldl crcByte 0xFF

/-- The frame passes its checks: fourteen bytes, the last the CRC-8 over the thirteen before it (R131, R193). -/
def frameGood (bs : List Byte) : Bool := bs.length = 14 && bs.getD 13 0 = crc8 (bs.take 13)

/-- Byte `k` of a frame. -/
def frameByte (bs : List Byte) (k : Nat) : Byte := bs.getD k 0

/-- The pair of bits `2 * k + 1` and `2 * k` of a byte. -/
def pairAt (b : Byte) (k : Nat) : Sample := ⟨b.getLsbD (2 * k + 1), b.getLsbD (2 * k)⟩

/-- The sample pair of a cleat position: position 0 in bits 7 and 6 of byte 0. -/
def cleatPair (bs : List Byte) (pos : Fin 32) : Sample := pairAt (frameByte bs (pos.val / 4)) (3 - pos.val % 4)

/-- The jack pair of a panel: PORT in bits 7 and 6 of byte 8, STBD in bits 5 and 4. -/
def jackPair (bs : List Byte) : Panel → Sample
  | .port => pairAt (frameByte bs 8) 3
  | .stbd => pairAt (frameByte bs 8) 2

/-- The position of a panel in bits 13 to 0 of bytes 9 and 10, or 11 and 12. -/
def framePosition (bs : List Byte) (p : Panel) : Nat :=
  let k := match p with
    | .port => 9
    | .stbd => 11
  ((frameByte bs k).toNat * 256 + (frameByte bs (k + 1)).toNat) % 16384

/-! ### Samples of a panel (R136 to R139) -/

/-- A count that stops at 65535. -/
def up16 (n : Nat) : Nat := min 65535 (n + 1)

/-- The sample that three newest samples agree on. -/
def agreed : List Sample → Option Sample
  | a :: b :: c :: _ => if a = b && b = c then some a else none
  | _ => none

/-- The jack verdict of an agreed sample (R136). -/
def jackOf (x : Sample) : JackVerdict :=
  match x.first, x.second with
  | true, false => .lifted
  | false, true => .lowered
  | false, false => .between
  | true, true => .switchFault

/-- A jack sample joins (R136). -/
def PanelSense.withJack (p : PanelSense) (x : Sample) : PanelSense :=
  let l := (x :: p.jackHistory).take 3
  { p with jackHistory := l, jack := ((agreed l).map jackOf).getD p.jack }

/-- The speed over three accepted positions, newest first; the speed held where there are fewer (R139). -/
def speedOf (l : List Nat) (held : Option Int) : Option Int :=
  match l with
  | a :: _ :: c :: _ => some (((a : Int) - c) * 10)
  | _ => held

/-- The position becomes INVALID (R133, R138). -/
def PanelSense.invalid (p : PanelSense) : PanelSense :=
  { p with position := none, speed := none, accepted := [], candidates := [], rejectRun := 0 }

/-- An accepted position (R137). -/
def PanelSense.accept (p : PanelSense) (x : Nat) : PanelSense :=
  let l := (x :: p.accepted).take 3
  { p with position := some x, accepted := l, rejectRun := 0, speed := speedOf l p.speed }

/-- A rejected position: the third in a row makes the position INVALID (R137, R138). -/
def PanelSense.reject (p : PanelSense) : PanelSense :=
  let p := { p with rejectTotal := up16 p.rejectTotal }
  if 2 ≤ p.rejectRun then p.invalid else { p with rejectRun := p.rejectRun + 1, accepted := p.accepted.take 1 }

/-- Three candidates agree: highest and lowest differ by at most 60 mm (R138). -/
def candidatesAgree : List Nat → Bool
  | [a, b, c] => decide (max a (max b c) ≤ min a (min b c) + 60)
  | _ => false

/-- A position sample while the position is INVALID (R138). -/
def PanelSense.candidate (p : PanelSense) (x : Nat) : PanelSense :=
  let l := (x :: p.candidates).take 3
  if candidatesAgree l then { p with position := some x, accepted := l, candidates := [], speed := speedOf l none }
  else { p with candidates := l }

/-- Two positions lie at most 60 mm apart (R137). -/
def near (a b : Nat) : Bool := decide (a ≤ b + 60) && decide (b ≤ a + 60)

/-- A position sample (R137, R138). -/
def PanelSense.withPosition (p : PanelSense) (x : Nat) : PanelSense :=
  match p.position with
  | some held => if near held x then p.accept x else p.reject
  | none => p.candidate x

/-- Whether a position sample is handed on: an accepted sample or a change of validity (R135). -/
def PanelSense.reports (p : PanelSense) (x : Nat) : Bool :=
  match p.position with
  | some held => near held x || (p.withPosition x).position.isNone
  | none => (p.withPosition x).position.isSome

/-- A missed scan cuts the accepted list back and empties the candidate list (R137, R138). -/
def PanelSense.missed (p : PanelSense) : PanelSense := { p with accepted := p.accepted.take 1, candidates := [] }

/-- The panel part at a loss of the line (R133). -/
def PanelSense.lost (p : PanelSense) : PanelSense := { p.invalid with jackHistory := [], jack := .unverified }

/-- Both panels changed. -/
def Two.map {α : Type} (t : Two α) (f : α → α) : Two α := ⟨f t.port, f t.stbd⟩

/-! ### SCAN (R131 to R133) -/

/-- The Securing Table takes a LOST report: every sensor-fitted record of the hatch is UNVERIFIED (R6). -/
def tableLost (s : State) (h : Hatch) : State :=
  { s with table := { s.table with
    slots := Tbl.build fun id =>
      if cleatHatch id = h then
        (s.slot id).map fun r => if r.sensor then { r with verdict := .unverified } else r
      else s.slot id } }

/-- The loss of a line, as one event (R133, R70, R124). -/
def lineLost (s : State) (h : Hatch) (j : Junction) : State :=
  let s := s.setJunction h { j with state := .lost, misses := 3, panels := j.panels.map PanelSense.lost }
  let s := rejudge (tableLost s h) h
  let s := if (s.ctx h).state.isMoving then faultHatch s h .junction else s
  jogEndInvalid (jogEndInvalid s h .port) h .stbd

/-- The next scan of the line begins: the Scanner sends the poll, the number of the hatch (R131, R193). -/
def Junction.beginScan (j : Junction) (h : Hatch) : Junction :=
  { j with goodFrame := false, poll := some (byteOf (hatchNumber h)) }

/-- A missed scan (R132). -/
def missedScan (s : State) (h : Hatch) (j : Junction) : State :=
  let j := { j with missedScans := up16 j.missedScans }
  match j.state with
  | .online => s.setJunction h { j with state := .missing, misses := 1, panels := j.panels.map PanelSense.missed }
  | .missing =>
    if 2 ≤ j.misses then lineLost s h j
    else s.setJunction h { j with misses := j.misses + 1, panels := j.panels.map PanelSense.missed }
  | .lost => s.setJunction h { j with misses := 3 }

/-- SCAN (R131): a scan of the line ends and the next begins. -/
def execScan (hatch : Hatch) (s : State) : Host.Outcome State Fault Refusal :=
  event (fun s =>
    let j := s.junctions.get hatch
    if j.goodFrame then s.setJunction hatch (j.beginScan hatch) else missedScan s hatch (j.beginScan hatch)) s

/-! ### The cleat samples of a good frame (R4 to R8) -/

/-- The cleat verdict of an agreed sample (R5). -/
def verdictOf (x : Sample) : CleatVerdict :=
  match x.first, x.second with
  | true, false => .engaged
  | false, true => .released
  | false, false => .moving
  | true, true => .sensorFault

/-- A record takes one sample, with what its verdict changes (R4, R5, R7, R8); `returned` empties the history first (R6). -/
def CleatRec.withSample (r : CleatRec) (returned : Bool) (x : Sample) : CleatRec :=
  if r.sensor then
    let l := (x :: if returned then [] else r.history).take 8
    let v := ((agreed l).map verdictOf).getD r.verdict
    { r with
      history := l
      verdict := v
      lost := if v = .engaged ∧ r.verdict ≠ .engaged then false else r.lost
      faultCount := if v = .sensorFault ∧ r.verdict ≠ .sensorFault then min 255 (r.faultCount + 1) else r.faultCount }
  else r

/-- The position of a cleat in its hatch (R1). -/
def cleatPosition (id : CleatId) : Fin 32 := ⟨id.val % 32, by omega⟩

/-- The slots after the 32 samples of a frame. -/
def sampledSlots (s : State) (h : Hatch) (returned : Bool) (bs : List Byte) : Tbl 288 (Option CleatRec) :=
  Tbl.build fun id =>
    if cleatHatch id = h then (s.slot id).map fun r => r.withSample returned (cleatPair bs (cleatPosition id))
    else s.slot id

/-- The hand-offs of the records whose verdict the frame changed, in id order (R4, R8). -/
def verdictTasks (before after : State) (h : Hatch) : List Task :=
  (hatchCleats h).filterMap fun id =>
    match before.slot id, after.slot id with
    | some a, some b => if a.verdict = b.verdict then none else some (.cleatChange id a.verdict b.verdict)
    | _, _ => none

/-- The records whose fault count the frame changed are written to the retention memory (R7), in id order (assumption log 29). -/
def retainCounts (before after : State) (h : Hatch) : State :=
  (hatchCleats h).foldl (fun s id =>
    if (before.slot id).map (·.faultCount) = (after.slot id).map (·.faultCount) then s else retain s (.cleat id)) after

/-! ### JUNCTION_FRAME (R131, R134, R135) -/

/-- The panels of a junction after a good frame (R135 to R139). -/
def sampledPanels (t : Two PanelSense) (bs : List Byte) : Two PanelSense :=
  ⟨(t.port.withJack (jackPair bs .port)).withPosition (framePosition bs .port),
    (t.stbd.withJack (jackPair bs .stbd)).withPosition (framePosition bs .stbd)⟩

/-- What a good frame hands on of one panel (R135). -/
def panelTasks (before after : State) (h : Hatch) (bs : List Byte) (p : Panel) : List Task :=
  (if (before.panel h p).reports (framePosition bs p) then
    [.position h p (inClosedBand before h p != inClosedBand after h p)] else []) ++
  (if (before.panel h p).jack = (after.panel h p).jack then [] else [.jack h p])

/-- The good frame of a scan (R132, R134, R135). A hatch that is UNKNOWN is derived when its conditions hold (R51); a sensing
that becomes usable tries the squall start (R149), and a return from LOST tests a RECLAMP (R155). The spec gives no order of
the derivation and the hand-offs of the same frame's cleat verdicts: here the hatch is derived first, so that a cleat which
leaves ENGAGED in that frame meets a hatch that may be CLOSED by then (assumption log 10). -/
def goodFrame (s : State) (h : Hatch) (bs : List Byte) : State :=
  let j := s.junctions.get h
  let returned : Bool := j.state = .lost
  let t := s.setJunction h { j with state := .online, misses := 0, goodFrame := true, panels := sampledPanels j.panels bs }
  let t := { t with table := { t.table with slots := sampledSlots s h returned bs } }
  let tasks := verdictTasks s t h ++ panelTasks s t h bs .port ++ panelTasks s t h bs .stbd ++
    (if !sensingUsable s h && sensingUsable t h then [.squallTry h] else []) ++
    (if returned then [.reclampTest h] else [])
  deriveIfReady (rejudge ((retainCounts s t h).push tasks) h) h

/-- JUNCTION_FRAME (R131): a frame that fails its checks is counted, a second good frame of a scan is discarded. -/
def execJunctionFrame (hatch : Hatch) (bytes : List Byte) (s : State) : Host.Outcome State Fault Refusal :=
  event (fun s =>
    let j := s.junctions.get hatch
    if !frameGood bytes then s.setJunction hatch { j with frameErrors := up16 j.frameErrors }
    else if j.goodFrame then s
    else goodFrame s hatch bytes) s

/-! ### ANALOG_SAMPLE (R140 to R143) -/

/-- The value of an in-band code (R142). -/
def scaled (lo hi : Int) (code : Nat) : Int := lo + ((max 800 (min 4000 code) : Nat) - 800 : Int) * (hi - lo) / 3200

/-- The sample of one channel; none for a transfer that did not complete (R140, R141). -/
def AnalogRec.sampled (lo hi : Int) (r : AnalogRec) (code : Option (BitVec 12)) : AnalogRec :=
  let r := { r with code := (code.map BitVec.toNat).getD r.code }
  let inBand : Bool := code.isSome && decide (720 ≤ r.code) && decide (r.code ≤ 4080)
  if inBand then
    if !r.fault then { r with outRun := 0, value := some (scaled lo hi r.code) }
    else if 2 ≤ r.inRun then { r with fault := false, inRun := 0, value := some (scaled lo hi r.code) }
    else { r with inRun := r.inRun + 1 }
  else if r.fault then { r with inRun := 0 }
  else if 2 ≤ r.outRun then { r with fault := true, faultCount := up16 r.faultCount, outRun := 0 }
  else { r with outRun := r.outRun + 1 }

/-- The four records after a transfer (R142). -/
def Analog.sampled (a : Analog) (codes : Option AnalogCodes) : Analog where
  pressure := a.pressure.sampled 0 4000 (codes.map (·.pressure))
  temperature := a.temperature.sampled (-20) 120 (codes.map (·.temperature))
  heel := a.heel.sampled (-200) 200 (codes.map (·.heel))
  wind := a.wind.sampled 0 600 (codes.map (·.wind))

/-- The supply flags at an oil temperature value (R92). -/
def testTemperature (s : State) : State :=
  match s.analog.temperature.reading with
  | none => s
  | some t =>
    if s.params.tHot < t then { s with supply := { s.supply with overtemp := true, overtempSeen := true } }
    else if t ≤ s.params.tHot - 5 then { s with supply := { s.supply with overtemp := false } }
    else s

/-- The consumers of a transfer (R143). DESIGN CHOICE (assumption log 33): the one-pump reduction is tested here as well, so that
a change of d that leaves A as it was, and ends the condition, returns the reduction timer to 0 at this event (R88). -/
def takeSample (codes : Option AnalogCodes) (s : State) : State :=
  let s := testTemperature { s with analog := s.analog.sampled codes }
  syncReduction (syncAvailable (syncPressure (s.push (allHatches.map Task.heelWind))))

/-- ANALOG_SAMPLE (R140 to R143). -/
def execAnalogSample (codes : Option AnalogCodes) (s : State) : Host.Outcome State Fault Refusal :=
  event (takeSample codes) s

end Sys2Proof.Machine
end

