-- ==== Sys2Proof/Machine/Squall.lean ====
section
/-!
DEFINITION. Machine/Squall.lean: SQUALL (R147, R148) and CANCEL_SQUALL (R152).
-/

namespace Sys2Proof.Machine
open Sys2Proof

/-- BRIDGE or CARGO. -/
def squallAuthority (n : StationId) : Bool := roleOf n = .bridge || roleOf n = .cargo

/-- A SQUALL marks this hatch: it carries no mark and is not CLOSED and secured (R147). -/
def squallMarks (s : State) (h : Hatch) : Bool :=
  !(s.ctx h).mark && !((s.ctx h).state = .closed && (s.table.verdict.get h).isSecured)

/-- The new mark of a hatch and its effect (R146, R148). A RECLAMP that the squall start does not replace goes on with class
URGENT (R158). -/
def markHatch (h : Hatch) (s : State) : State :=
  let s := s.updCtx h fun c => { c with mark := true }
  match (s.ctx h).state with
  | .closing => reclass s h
  | .opening => stopStep s h .closing
  | .stopping => s.updCtx h fun c => { c with next := some .closing }
  | .open | .held => s.push [.squallTry h]
  | .closed => if squallPossible s h then s.push [.squallTry h] else reclass s h
  | .fault | .unknown => s

/-- The SQUALL request (R147). -/
def squallRequest (f : RxFrame) (s : State) : State :=
  if !s.imageValid then reply s f .notReady
  else if !squallAuthority f.station then reply s f .refusedAuthority
  else
    let marked := allHatches.filter (squallMarks s)
    marked.foldr markHatch (reply s f .ok [byteOf marked.length])

/-- SQUALL (R147, R148). -/
def execSquall (s : State) : Host.Outcome State Fault Refusal := event (taking (ofKind kindSquall) squallRequest) s

/-- The CANCEL_SQUALL request (R152). -/
def cancelRequest (f : RxFrame) (s : State) : State :=
  if !s.imageValid then reply s f .notReady
  else if !squallAuthority f.station then reply s f .refusedAuthority
  else if !s.squallActive then reply s f .already
  else
    let marked := allHatches.filter fun h => (s.ctx h).mark
    marked.foldr (fun h s => clearMark s h) (reply s f .ok [byteOf marked.length])

/-- CANCEL_SQUALL (R152). -/
def execCancelSquall (s : State) : Host.Outcome State Fault Refusal :=
  event (taking (ofKind kindCancelSquall) cancelRequest) s

end Sys2Proof.Machine
end

