-- ==== Sys2Proof/Machine/Stops.lean ====
section
/-!
DEFINITION. Machine/Stops.lean: the Stop Line Unit's commands: LOOP_OPENS (R125, R126, R89), LOOP_CLOSES and
CLEARING_TIMER_EXPIRY (R128), and ACK_TRIP (R127, R129).
-/

namespace Sys2Proof.Machine
open Sys2Proof

/-- The hatch of a loop number, 1 to 9; none for ESTOP. -/
def loopHatch (n : Fin 10) : Option Hatch := if h : n.val = 0 then none else some ⟨n.val - 1, by omega⟩

/-- Whether a loop reads OPEN. -/
def loopIsOpen (s : State) (n : Fin 10) : Bool :=
  match loopHatch n with
  | none => s.stops.estopOpen
  | some h => s.stops.loopOpen.get h

/-- A loop reads OPEN or CLOSED. -/
def setLoop (s : State) (n : Fin 10) (isOpen : Bool) : State :=
  match loopHatch n with
  | none => { s with stops := { s.stops with estopOpen := isOpen } }
  | some h => { s with stops := { s.stops with loopOpen := s.stops.loopOpen.set h isOpen } }

/-- The ESTOP latch becomes set: the trip of all nine hatches and the stop requests of R89. -/
def estopTrip (s : State) : State :=
  let s := { s with stops := { s.stops with estopLatch := true } }
  let before := pumpStates s
  let s := [(0 : PumpId), 1, 2].foldl stopPump s
  let s := allHatches.foldr (fun h s => takeTrip s h) s
  if pumpStates s = before then s else pumpsChanged s

/-- A loop opens on a part that is not in reset (R125). -/
def loopTrips (n : Fin 10) (s : State) : State :=
  let s := setLoop s n true
  match loopHatch n with
  | none => if s.stops.estopLatch then s else estopTrip s
  | some h =>
    let s := { s with stops := { s.stops with clearing := s.stops.clearing.set h 0 } }
    if s.stops.latch.get h then s
    else takeTrip { s with stops := { s.stops with latch := s.stops.latch.set h true } } h

/-- LOOP_OPENS (R125, R126): in reset only the level of the line changes, which the end of the reset reads. -/
def execLoopOpens (loop : Fin 10) (s : State) : Host.Outcome State Fault Refusal :=
  .next <|
    if loopIsOpen s loop then s
    else if s.inReset then setLoop s loop true
    else settle (loopTrips loop s)

/-- LOOP_CLOSES (R125, R128): the clearing timer of an AUTO loop counts from here. -/
def execLoopCloses (loop : Fin 10) (s : State) : Host.Outcome State Fault Refusal := .next (setLoop s loop false)

/-! ### Clearing -/

/-- The hatches that a clearing may have left untripped take up what waits (R79, R129). -/
def takeUpUntripped (hs : List Hatch) (s : State) : State :=
  (hs.filter fun h => !s.tripped h).foldr (fun h s => takeUp s h) s

/-- A hatch latch is cleared (R129). -/
def clearLatch (s : State) (h : Hatch) : State :=
  takeUpUntripped [h] { s with stops := { s.stops with
    latch := s.stops.latch.set h false
    clearing := s.stops.clearing.set h 0 } }

/-- The ESTOP latch is cleared (R129). -/
def clearEstop (s : State) : State :=
  takeUpUntripped allHatches { s with stops := { s.stops with estopLatch := false } }

/-- The clearing timer of a hatch counts: AUTO, latch set, loop CLOSED (R128). -/
def clearingCounts (s : State) (h : Hatch) : Bool :=
  s.params.clearsAuto h && s.stops.latch.get h && !s.stops.loopOpen.get h

/-- CLEARING_TIMER_EXPIRY (R128): the timer reaches 1.0 s. One that starts afresh in the same instant stands at 0 and goes on
(assumption log 2). -/
def execClearingTimerExpiry (hatch : Hatch) (s : State) : Host.Outcome State Fault Refusal :=
  event (fun s => if clearingCounts s hatch && decide (0 < s.stops.clearing.get hatch) then clearLatch s hatch else s) s

/-! ### ACK_TRIP -/

/-- Row 3 of R127. -/
def ackTripAuthority (n : StationId) (target : Option Hatch) : Bool :=
  roleOf n = .bridge || roleOf n = .cargo || roleOf n = .service ||
  match target with
  | some h => n = localStation h
  | none => false

/-- The ACK_TRIP request (R127). -/
def ackTripRequest (f : RxFrame) (s : State) : State :=
  let n := f.byte 2
  let answer (c : Code) : State := s.push [.answer f c 0]
  if !s.imageValid then answer .notReady
  else if 9 < n then answer .unknownItem
  else if !ackTripAuthority f.station (hatchOf n) then answer .refusedAuthority
  else match hatchOf n with
    | none =>
      if !s.stops.estopLatch then answer .already
      else if s.stops.estopOpen then answer .notReady
      else clearEstop (answer .ok)
    | some h =>
      if !s.stops.latch.get h then answer .already
      else if s.stops.loopOpen.get h then answer .notReady
      else clearLatch (answer .ok) h

/-- ACK_TRIP (R127, R129). -/
def execAckTrip (s : State) : Host.Outcome State Fault Refusal := event (taking (ofKind kindAckTrip) ackTripRequest) s

end Sys2Proof.Machine
end

