-- ==== Sys2Proof/Machine/StoreUnit.lean ====
section
/-!
DEFINITION. Machine/StoreUnit.lean: SET_PARAM (R181, R182) with what each owner does with a new value, the ends of its write
(R182, R183), and the end of a retention write (R185).
-/

namespace Sys2Proof.Machine
open Sys2Proof

/-! ### What the owners do with a new value (R182) -/

/-- The layout of a slot changes: its record is built again, its kept fields are discarded and written (R23). -/
def rebuildSlot (s : State) (id : CleatId) : State :=
  let s := retain (s.setSlot id (builtSlot s.store.copy id)) (.cleat id)
  takeUp (rejudge s (cleatHatch id)) (cleatHatch id)

/-- The hatches whose closed-band test differs between two states. -/
def bandsMoved (before after : State) : List Hatch :=
  allHatches.filter fun h =>
    inClosedBand before h .port != inClosedBand after h .port || inClosedBand before h .stbd != inClosedBand after h .stbd

/-- The stop band changes: the bands change at once, and a CLOSED hatch whose closed-band test moved tries the squall start
(R48, R18, R149). DESIGN CHOICE (assumption log 8): no rule orders the hatches of one such event; H1 is taken first and H9 last. -/
def bandChanged (before s : State) : State :=
  (bandsMoved before s).foldr (fun h s => if (s.ctx h).state = .closed then s.push [.squallTry h] else s) (rejudgeAll s)

/-- The clearing mode of a hatch changes: the timer stands at 0 at the start of a count, and in MANUAL (R128). -/
def modeChanged (s : State) (h : Hatch) : State :=
  { s with stops := { s.stops with clearing := s.stops.clearing.set h 0 } }

/-- The hatch of an index 1 to 9, and the pump set of an index 1 to 3. -/
def onHatch (idx : Nat) (f : Hatch → State → State) (s : State) : State :=
  match hatchOf idx with
  | some h => f h s
  | none => s

/-- The owner's action on a new value of an item; `before` is the part with the old value. The items not named act when
they are next read (R182). -/
def ownerTakes (before : State) (item idx : Nat) (s : State) : State :=
  match item with
  | 1 | 3 => onHatch idx (fun h s => rejudge s h) s
  | 4 => onHatch idx (fun h s => modeChanged s h) s
  | 5 | 6 | 7 => match cleatOf idx with
    | some id => rebuildSlot s id
    | none => s
  | 11 => match pumpOf idx with
    | some k => ratingsTaken s (setRating s k (s.store.copy.rated k))
    | none => s
  | 12 | 13 | 14 => syncAvailable s
  | 22 => bandChanged before s
  | 29 => idleChanged before.params.idleTime s
  | 30 => syncPressure s
  | _ => s

/-! ### SET_PARAM -/

/-- The operands of a SET_PARAM frame (R190). -/
def paramItem (f : RxFrame) : Nat := f.byte 2
def paramIndex (f : RxFrame) : Nat := f.word 3
def paramValue (f : RxFrame) : Int := ofSigned2 (f.word 5)

/-- Rows 3 and 4 of R181. -/
def paramBusy (s : State) (item idx : Nat) : Bool :=
  (match s.store.unsaved with
    | some u => u != (item, idx)
    | none => false) ||
  (s.hatches.items.any fun c => c.state.isMoving) || s.drive.jog.isSome || !s.arbiter.isEmpty

/-- A SET_PARAM that is taken for writing (R165, R182). -/
def beginWrite (s : State) (f : RxFrame) : State :=
  let item := paramItem f
  let idx := paramIndex f
  let v := paramValue f
  let before := s
  let s := { s with store := { s.store with copy := s.store.copy.withItem item idx v, write := some ⟨item, idx, v⟩ } }
  let s := s.setStation f.station { s.station f.station with outstanding := some ⟨f.data.get 0, f.data.get 1⟩ }
  if s.imageValid && before.store.copy.item item idx != v then ownerTakes before item idx s else s

/-- The SET_PARAM request, with the level of KEY_SERVICE at its taking (R181). -/
def paramRequest (keyServiceClosed : Bool) (f : RxFrame) (s : State) : State :=
  let s := { s with keyService := keyServiceClosed }
  let item := paramItem f
  let idx := paramIndex f
  if !itemExists item idx then reply s f .unknownItem
  else if !(roleOf f.station = .service && keyServiceClosed) then reply s f .refusedAuthority
  else if paramBusy s item idx then reply s f .busy
  else if !itemValueOk item (paramValue f) then reply s f .badValue
  else if !(s.store.copy.withItem item idx (paramValue f)).sound then reply s f .badValue
  else beginWrite s f

/-- SET_PARAM (R181, R182). -/
def execSetParam (keyServiceClosed : Bool) (s : State) : Host.Outcome State Fault Refusal :=
  event (taking (ofKind kindSetParam) (paramRequest keyServiceClosed)) s

/-! ### The end of the write -/

/-- The answer to the SET_PARAM: item, index and value, with bit 7 of the item for "not stored"; the outstanding request of
the SERVICE station is removed (R165, R190). -/
def answerWrite (s : State) (w : ParamWrite) (stored : Bool) : State :=
  match (s.station serviceStation).outstanding with
  | none => s
  | some o =>
    send (s.setStation serviceStation { s.station serviceStation with outstanding := none })
      ⟨0x28D, eightBytes ([o.kind, o.tag, byteOf Code.ok.code, byteOf (w.item + bit (!stored) 128)] ++
        bytes2 w.index ++ signed2 w.value)⟩

/-- The written mark of an item and index is set. -/
def markWritten (s : State) (w : ParamWrite) : State :=
  if h : itemPlace w.item w.index < 949 then
    { s with store := { s.store with written := s.store.written.set ⟨itemPlace w.item w.index, h⟩ true } }
  else s

/-- A write that ends stored (R182). -/
def writeStored (s : State) (w : ParamWrite) : State :=
  let s := markWritten s w
  let s := { s with store := { s.store with
    write := none
    unsaved := if s.store.unsaved = some (w.item, w.index) then none else s.store.unsaved } }
  let s := answerWrite s w true
  let s := if s.store.image = .invalid && s.store.written.items.all id then imageBecomesValid s else s
  { s with store := { s.store with memoryFailing := s.store.memoryFailing && !s.imageValid } }

/-- WRITE_STORED (R182). -/
def execWriteStored (s : State) : Host.Outcome State Fault Refusal :=
  event (fun s =>
    match s.store.write with
    | some w => writeStored s w
    | none => s) s

/-- A write that ends unstored (R183). -/
def writeLost (s : State) (w : ParamWrite) : State :=
  answerWrite { s with store := { s.store with
    write := none
    unsaved := match s.store.unsaved with
      | some u => some u
      | none => some (w.item, w.index) } } w false

/-- WRITE_UNSTORED (R183): the external memory reports a failure. -/
def execWriteUnstored (s : State) : Host.Outcome State Fault Refusal :=
  quiet (fun s =>
    match s.store.write with
    | some w => writeLost s w
    | none => s) s

/-- WRITE_TIMEOUT (R183): 20 ms pass with no confirmation. -/
def execWriteTimeout (s : State) : Host.Outcome State Fault Refusal :=
  quiet (fun s =>
    match s.store.write with
    | some w => writeLost s w
    | none => s) s

/-! ### RETENTION_WRITE_END -/

/-- The retention memory with a write in it. -/
def Retention.committed (r : Retention) : RetWrite → Retention
  | .holds es c => { r with entries := es, counter := c }
  | .cleat id k => { r with cleats := r.cleats.set id k }

/-- The next write of the list begins (R185). -/
def nextWrite (s : State) : State :=
  match s.retention.waiting with
  | [] => { s with retention := { s.retention with underWay := none } }
  | i :: is => { s with retention := { s.retention with underWay := some (retWriteOf s i), waiting := is } }

/-- RETENTION_WRITE_END (R185): the write under way ends, and the next begins with its record as it stands now. -/
def execRetentionWriteEnd (s : State) : Host.Outcome State Fault Refusal :=
  quiet (fun s =>
    match s.retention.underWay with
    | none => s
    | some w => nextWrite { s with retention := s.retention.committed w }) s

end Sys2Proof.Machine
end

