-- ==== Sys2Proof/Machine/Dispatch.lean ====
section
/-!
DEFINITION. Machine/Dispatch.lean: one arm for each command, each one direct call of its meaning.
-/

namespace Sys2Proof.Machine
open Sys2Proof

def exec (i : Instr) (s : State) : Host.Outcome State Fault Refusal :=
  match i with
  | .reset source => Sys2Proof.Machine.execReset source s
  | .startUp => Sys2Proof.Machine.execStartUp s
  | .imageReadEnd image checkAgrees => Sys2Proof.Machine.execImageReadEnd image checkAgrees s
  | .imageReadTimeout => Sys2Proof.Machine.execImageReadTimeout s
  | .deckFrameArrival frame => Sys2Proof.Machine.execDeckFrameArrival frame s
  | .silenceTimerExpiry station => Sys2Proof.Machine.execSilenceTimerExpiry station s
  | .unknownRequest => Sys2Proof.Machine.execUnknownRequest s
  | .presence => Sys2Proof.Machine.execPresence s
  | .lookCleat => Sys2Proof.Machine.execLookCleat s
  | .lookHold => Sys2Proof.Machine.execLookHold s
  | .lookHatch => Sys2Proof.Machine.execLookHatch s
  | .lookSupply => Sys2Proof.Machine.execLookSupply s
  | .lookSensing => Sys2Proof.Machine.execLookSensing s
  | .lookStation => Sys2Proof.Machine.execLookStation s
  | .lookParam => Sys2Proof.Machine.execLookParam s
  | .findCleat => Sys2Proof.Machine.execFindCleat s
  | .findHold => Sys2Proof.Machine.execFindHold s
  | .move => Sys2Proof.Machine.execMove s
  | .halt => Sys2Proof.Machine.execHalt s
  | .ackFault => Sys2Proof.Machine.execAckFault s
  | .placeHold => Sys2Proof.Machine.execPlaceHold s
  | .liftHold keyOverrideClosed => Sys2Proof.Machine.execLiftHold keyOverrideClosed s
  | .confirmCleat => Sys2Proof.Machine.execConfirmCleat s
  | .setService => Sys2Proof.Machine.execSetService s
  | .squall => Sys2Proof.Machine.execSquall s
  | .cancelSquall => Sys2Proof.Machine.execCancelSquall s
  | .ackTrip => Sys2Proof.Machine.execAckTrip s
  | .ackPump => Sys2Proof.Machine.execAckPump s
  | .ackPumpFlags => Sys2Proof.Machine.execAckPumpFlags s
  | .jog keyServiceClosed => Sys2Proof.Machine.execJog keyServiceClosed s
  | .jogRenewal keyServiceClosed => Sys2Proof.Machine.execJogRenewal keyServiceClosed s
  | .setParam keyServiceClosed => Sys2Proof.Machine.execSetParam keyServiceClosed s
  | .writeStored => Sys2Proof.Machine.execWriteStored s
  | .writeUnstored => Sys2Proof.Machine.execWriteUnstored s
  | .writeTimeout => Sys2Proof.Machine.execWriteTimeout s
  | .retentionWriteEnd => Sys2Proof.Machine.execRetentionWriteEnd s
  | .frameSent => Sys2Proof.Machine.execFrameSent s
  | .broadcastCycle => Sys2Proof.Machine.execBroadcastCycle s
  | .scan hatch => Sys2Proof.Machine.execScan hatch s
  | .junctionFrame hatch bytes => Sys2Proof.Machine.execJunctionFrame hatch bytes s
  | .analogSample codes => Sys2Proof.Machine.execAnalogSample codes s
  | .stepTimeout hatch => Sys2Proof.Machine.execStepTimeout hatch s
  | .stall hatch panel => Sys2Proof.Machine.execStall hatch panel s
  | .driveUpdate hatch channel => Sys2Proof.Machine.execDriveUpdate hatch channel s
  | .deadtimeExpiry hatch channel => Sys2Proof.Machine.execDeadtimeExpiry hatch channel s
  | .coilFeedbackChange hatch channel sensed => Sys2Proof.Machine.execCoilFeedbackChange hatch channel sensed s
  | .jogTimerExpiry => Sys2Proof.Machine.execJogTimerExpiry s
  | .keyServiceOpens => Sys2Proof.Machine.execKeyServiceOpens s
  | .loopOpens loop => Sys2Proof.Machine.execLoopOpens loop s
  | .loopCloses loop => Sys2Proof.Machine.execLoopCloses loop s
  | .clearingTimerExpiry hatch => Sys2Proof.Machine.execClearingTimerExpiry hatch s
  | .runFeedbackChange pump present => Sys2Proof.Machine.execRunFeedbackChange pump present s
  | .failToStart pump => Sys2Proof.Machine.execFailToStart pump s
  | .failToStop pump => Sys2Proof.Machine.execFailToStop pump s
  | .runAgeExpiry pump => Sys2Proof.Machine.execRunAgeExpiry pump s
  | .lowTimerExpiry => Sys2Proof.Machine.execLowTimerExpiry s
  | .recoveryTimerExpiry => Sys2Proof.Machine.execRecoveryTimerExpiry s
  | .idleTimerExpiry => Sys2Proof.Machine.execIdleTimerExpiry s
  | .reductionTimerExpiry => Sys2Proof.Machine.execReductionTimerExpiry s

end Sys2Proof.Machine
end

