-- ==== Sys2Proof/Machine/Tick.lean ====
section
/-!
DEFINITION. Machine/Tick.lean: the passing of 10 ms, which is what a step does while no command waits (assumption log 2). A
timer counts up to one unit below its limit and a deadtime or jog timer down to 10 ms; the last unit of each belongs to its
own expiry command, so that an expiry is always an event of the opcode table.
-/

namespace Sys2Proof.Machine
open Sys2Proof

/-- One unit more, stopping one unit below the limit. -/
def toward (limit t : Nat) : Nat := if t + 1 < limit then t + 1 else t

/-- Ten milliseconds less, stopping at 10. -/
def downTen (t : Nat) : Nat := if 20 ≤ t then t - 10 else t

/-- A step after 0.1 s: the step timer of an ACTIVE step and the stall timers of its panels (R56, R68). -/
def tickStep (s : State) (h : Hatch) (t : StepCtx) : StepCtx :=
  if t.phase = .active then
    { t with
      elapsed := toward (s.params.stepTimeout t.name) t.elapsed
      stallTimer :=
        ⟨if stallCounts s h .port then toward s.params.stallTime t.stallTimer.port else t.stallTimer.port,
          if stallCounts s h .stbd then toward s.params.stallTime t.stallTimer.stbd else t.stallTimer.stbd⟩ }
  else t

/-- A pump set after 0.1 s (R81 to R83). The run age counts while the set is RUNNING (assumption log 31). -/
def Pump.ticked (p : Pump) : Pump :=
  match p.state with
  | .starting => { p with timer := toward 150 p.timer }
  | .stopping => { p with timer := toward 100 p.timer }
  | .running => { p with age := toward 50 p.age }
  | .off | .tripped | .disabled => p

/-- The supply after 0.1 s (R91). -/
def tickSupply (s : State) : Supply :=
  { s.supply with
    pumps := s.supply.pumps.map Pump.ticked
    lowTimer := if lowCounts s then toward 30 s.supply.lowTimer else s.supply.lowTimer
    recoveryTimer := if recoveryCounts s then toward 30 s.supply.recoveryTimer else s.supply.recoveryTimer }

/-- The Arbiter's timers after 0.1 s (R87, R88); what returns the reduction timer to 0 is `syncReduction` (assumption log 33). -/
def tickArbiter (s : State) : Arbiter :=
  { s.arbiter with
    idleTimer := if s.arbiter.isEmpty then toward s.params.idleTime s.arbiter.idleTimer else s.arbiter.idleTimer
    reductionTimer :=
      if (reductionFor s).isSome && reductionFor s = s.arbiter.reductionSet then
        toward s.params.idleTime s.arbiter.reductionTimer
      else s.arbiter.reductionTimer }

/-- A station record after 0.1 s (R162). -/
def Station.ticked (r : Station) : Station := if r.present then { r with silence := toward 50 r.silence } else r

/-- The timers of 0.1 s. -/
def tickTenth (s : State) : State :=
  { s with
    hatches := Tbl.build fun h => { s.ctx h with step := (s.ctx h).step.map (tickStep s h) }
    supply := tickSupply s
    arbiter := tickArbiter s
    stops := { s.stops with
      clearing := Tbl.build fun h =>
        if clearingCounts s h then toward 10 (s.stops.clearing.get h) else s.stops.clearing.get h }
    link := { s.link with stations := s.link.stations.map Station.ticked } }

/-- The timers of 10 ms: deadtimes and the jog timer (R114, R123). -/
def tickDrive (d : Drive) : Drive :=
  { d with
    channels := d.channels.map fun t => t.map fun _ r => { r with deadtime := downTen r.deadtime }
    jog := d.jog.map fun j => if j.phase = .ending then j else { j with timer := downTen j.timer } }

/-- Ten milliseconds pass; a part held in reset does not count them. Uptime stops at 2^32 − 1 (R187). -/
def tick (s : State) : State :=
  if s.inReset then s
  else
    let s := { s with drive := tickDrive s.drive, ticks := s.ticks + 1 }
    let s := if s.ticks % 10 = 0 then tickTenth s else s
    if 100 ≤ s.ticks then { s with ticks := 0, uptime := min (2 ^ 32 - 1) (s.uptime + 1) } else s

end Sys2Proof.Machine
end

