-- ==== Sys2Proof/Machine/Step.lean ====
section
/-!
DEFINITION. Machine/Step.lean: one step of the part: the command at the front of the queue, or 10 ms of time where none waits
(assumption log 2).
-/

namespace Sys2Proof.Machine
open Sys2Proof

/-- The part with a command put at the front of its queue. -/
def State.offered (s : State) (c : Instr) : State := { s with pending := c :: s.pending }

/-- The part with the command that a word spells at the front of its queue; no word spells one (Decode.lean). -/
def State.withFetchWord (s : State) (nbits w : Nat) : State :=
  match Sys2Proof.decodeTableWord nbits w with
  | some c => s.offered c
  | none => s

/-- One step: the command at the front is executed on the part with the queue's rest; an empty queue lets 10 ms pass. -/
def step (s : State) : Host.Outcome State Fault Refusal :=
  match s.pending with
  | [] => .next (tick s)
  | c :: cs => exec c { s with pending := cs }

end Sys2Proof.Machine
end

