-- ==== Sys2Proof/Safety.lean ====
section
/-!
DEFINITION. Safety.lean: what the manual calls the laws of the device, as predicates of a state, the cases that the statements
of Certificates/Slice0 speak of, and what a safe run is.
-/

namespace Sys2Proof.Safety
open Sys2Proof Sys2Proof.Machine

/-! ### Laws of the device -/

/-- The Hold List keeps its laws: at most 48 entries, counts 1 to 15, no shared id, no two matching entries (R26). -/
def HoldsLawful (s : State) : Prop := holdLaws s.holds.entries = true

/-- Each hatch has at most one entry across the pending list and the granted set (R96). -/
def OneEntryEach (a : Arbiter) : Prop := (a.pending.map (·.hatch) ++ a.granted.map (·.entry.hatch)).Nodup

/-- The pending list stands in grant order: class first, arrival sequence within a class (R98). -/
def InGrantOrder (a : Arbiter) : Prop := a.pending.Pairwise fun x y => y.before x = false

/-- The laws of the Arbiter (R96, R98), with no entry and no step of the copy that has an M above its N (R178). -/
def FlowLawful (s : State) : Prop :=
  OneEntryEach s.arbiter ∧ InGrantOrder s.arbiter ∧
  (∀ e ∈ s.arbiter.pending ++ s.arbiter.granted.map (·.entry), e.m ≤ e.n) ∧
  ∀ t, s.store.copy.stepM t ≤ s.store.copy.stepN t

/-- The granted flow stays within the available flow (R102, R105): the sum of M and the sum of the shares of the granted set are
at most A, and each share lies from its entry's M to its N. -/
def WithinFlow (s : State) : Prop :=
  (s.arbiter.granted.map (·.entry.m)).sum ≤ s.supply.available ∧
  (s.arbiter.granted.map (·.grant.share)).sum ≤ s.supply.available ∧
  ∀ g ∈ s.arbiter.granted, g.entry.m ≤ g.grant.share ∧ g.grant.share ≤ g.entry.n

/-- At most one pump set is STARTING (R84). -/
def OneStarting (s : State) : Prop :=
  ∀ j k : PumpId, (s.pump j).state = .starting → (s.pump k).state = .starting → j = k

/-- The receive FIFO holds at most 16 frames (R163), and stations 14 and 15 stay ABSENT with no outstanding request (R160). -/
def LinkBounded (s : State) : Prop :=
  s.link.rx.length ≤ 16 ∧
  ∀ n : StationId, 13 < n.val → (s.station n).present = false ∧ (s.station n).outstanding = none

/-- The reclamp tries of a record never exceed 3, its fault count never 255 and its history never 8 samples (R2, R15); the
fault counts of the retention memory and of a write to it stay within 255 too (R24). -/
def RecordsInRange (s : State) : Prop :=
  (∀ id r, s.slot id = some r → r.tries ≤ 3 ∧ r.faultCount ≤ 255 ∧ r.history.length ≤ 8) ∧
  (∀ id, (s.retention.cleats.get id).faultCount ≤ 255) ∧
  ∀ id k, s.retention.underWay = some (.cleat id k) → k.faultCount ≤ 255

/-- Every channel of a tripped hatch stands at applied 0 (R126). -/
def TrippedAtRest (s : State) : Prop := ∀ h c, s.tripped h = true → (s.channel h c).applied = 0

/-- The securing verdict and reason of each hatch are those that R16 and R17 decide now (R18). -/
def VerdictsCurrent (s : State) : Prop :=
  ∀ h, s.table.verdict.get h = (judge s h).1 ∧ s.table.reason.get h = (judge s h).2

/-! ### Frames -/

/-- `t` differs from `u` at most in what the hand-offs of an event work on: the hatch contexts, the Arbiter, the states and
state timers of the pump sets, the jog, channel targets and masters, the securing verdicts, the reclamp fields of the cleat
records, the transmit list and the model's own agenda. Everything else is as in `u`. -/
def SameElsewhere (u t : State) : Prop :=
  t.holds = u.holds ∧ t.stops = u.stops ∧ t.junctions = u.junctions ∧ t.analog = u.analog ∧ t.store = u.store ∧
  t.retention = u.retention ∧ t.link.rx = u.link.rx ∧ t.link.stations = u.link.stations ∧ t.link.overrun = u.link.overrun ∧
  t.keyOverride = u.keyOverride ∧ t.keyService = u.keyService ∧ t.inReset = u.inReset ∧ t.resetCause = u.resetCause ∧
  t.uptime = u.uptime ∧ t.ticks = u.ticks ∧ t.pending = u.pending ∧ t.drive.cut = u.drive.cut ∧
  t.supply.lowPressure = u.supply.lowPressure ∧ t.supply.lowPressureSeen = u.supply.lowPressureSeen ∧
  t.supply.overtemp = u.supply.overtemp ∧ t.supply.overtempSeen = u.supply.overtempSeen ∧
  (∀ h c, (t.channel h c).applied = (u.channel h c).applied ∧ (t.channel h c).working = (u.channel h c).working ∧
    (t.channel h c).duty = (u.channel h c).duty ∧ (t.channel h c).deadtime = (u.channel h c).deadtime ∧
    (t.channel h c).sensed = (u.channel h c).sensed ∧ (t.channel h c).coilFault = (u.channel h c).coilFault) ∧
  (∀ k, (t.pump k).rated = (u.pump k).rated ∧ (t.pump k).feedback = (u.pump k).feedback ∧
    (t.pump k).cause = (u.pump k).cause ∧ (t.pump k).age = (u.pump k).age) ∧
  ∀ id, (t.slot id).map (fun r => (r.service, r.verdict, r.history, r.confirmation, r.retirement, r.faultCount)) =
    (u.slot id).map (fun r => (r.service, r.verdict, r.history, r.confirmation, r.retirement, r.faultCount))

/-- `t` differs from `s` in the supply and the Arbiter alone. -/
def OnlyFlowChanges (s t : State) : Prop := t = { s with supply := t.supply, arbiter := t.arbiter }

/-- The pump sets other than one are as before. -/
def OtherPumpsKept (s t : State) (k : PumpId) : Prop := ∀ i, i ≠ k → t.pump i = s.pump i

/-! ### Cases -/

/-- The part runs and no hand-off of an earlier event waits. -/
def Running (s : State) : Prop := s.inReset = false ∧ s.agenda = []

/-- A frame of a request kind stands at the head of the receive FIFO and is taken at the next taking: the transmit list has
room, and its station has no outstanding request (R164). -/
def Offers (k : Nat) (s : State) (f : RxFrame) : Prop :=
  takeable s = some f ∧ f.kind = k ∧ (s.station f.station).outstanding = none ∧ s.agenda = []

/-- The Arbiter holds no entry. -/
def NoEntry (s : State) : Prop := s.arbiter.pending = [] ∧ s.arbiter.granted = []

/-- The Arbiter holds no entry but this hatch's. -/
def OnlyEntryOf (s : State) (h : Hatch) : Prop :=
  (∀ e ∈ s.arbiter.pending, e.hatch = h) ∧ ∀ g ∈ s.arbiter.granted, g.entry.hatch = h

/-- The part with the securing verdict and reason of one hatch decided afresh (R18). -/
def judged (s : State) (h : Hatch) : State :=
  { s with table := { s.table with
    verdict := s.table.verdict.set h (judge s h).1
    reason := s.table.reason.set h (judge s h).2 } }

/-- A MOVE on a hatch passes rows 1 to 10 of R73 with this start step, the hatch having no step, and the Arbiter no entry. -/
def Moves (s : State) (f : RxFrame) (h : Hatch) (opening : Bool) (start : StepName) : Prop :=
  Offers 4 s f ∧ f.byte 2 = h.val + 1 ∧ f.byte 3 = (if opening then 0 else 1) ∧
  (roleOf f.station = .bridge ∨ roleOf f.station = .cargo ∨ f.station = localStation h) ∧
  s.imageValid = true ∧ sensingUsable s h = true ∧ s.tripped h = false ∧ jogOn s h = false ∧
  (if opening then
    ((s.ctx h).state = .closed ∨ (s.ctx h).state = .held) ∧ (s.ctx h).mark = false ∧ handFastened s h = false ∧
    openingStart s h = some start
  else
    ((s.ctx h).state = .open ∨ (s.ctx h).state = .held ∨
      ((s.ctx h).state = .closed ∧ (s.table.verdict.get h).isSecured = false)) ∧
    closingStart s h = start) ∧
  isBlocked s h (.step start) = false ∧ (s.ctx h).step = none ∧ NoEntry s ∧ s.arbiter.counter < 65535

/-- A step that has just joined (R47, R54). -/
def joined (name : StepName) (cls : Cls) (phase : Phase) : StepCtx :=
  ⟨name, cls, phase, 0, none, false, ⟨false, false⟩, ⟨0, 0⟩, ⟨false, false, false⟩⟩

/-- No hatch but this one has another context, another channel or another verdict than before. -/
def OtherHatchesKept (s t : State) (h : Hatch) : Prop :=
  ∀ g, g ≠ h → t.ctx g = s.ctx g ∧ t.table.verdict.get g = s.table.verdict.get g ∧
    (∀ c, t.channel g c = s.channel g c) ∧ ∀ id, cleatHatch id = g → t.slot id = s.slot id

/-- A RECLAMP is the current step of a CLOSED hatch. -/
def Reclamping (s : State) (h : Hatch) : Prop := (s.ctx h).state = .closed ∧ (s.ctx h).step.map (·.name) = some .reclamp

/-- The hatch has a motion that a HALT or a trip withdraws: it is OPENING, CLOSING, or CLOSED with a RECLAMP (R75, R78). -/
def Stoppable (s : State) (h : Hatch) : Prop :=
  (s.ctx h).state = .opening ∨ (s.ctx h).state = .closing ∨ Reclamping s h

/-- Every step and every entry of the Arbiter belongs to a motion that a HALT or a trip withdraws. -/
def AllStoppable (s : State) : Prop :=
  (∀ h, (s.ctx h).step ≠ none → Stoppable s h) ∧ (∀ e ∈ s.arbiter.pending, Stoppable s e.hatch) ∧
  ∀ g ∈ s.arbiter.granted, Stoppable s g.entry.hatch

/-- Every wanted cleat is IN_SERVICE and HYDRAULIC, as R15 leaves them. -/
def WantedHydraulic (s : State) : Prop :=
  ∀ id r, s.slot id = some r → r.wanted ≠ .no → r.service = .inService ∧ r.manual = false

/-- The conditions of the squall start but the mark itself (R149): an OPEN or HELD hatch, or a CLOSED one with closing work
remaining, with usable sensing, no trip, no jog, and no hold on its start step for closing. -/
def MayStart (s : State) (h : Hatch) : Prop :=
  ((s.ctx h).state = .open ∨ (s.ctx h).state = .held ∨ ((s.ctx h).state = .closed ∧
    ¬ (bothClosed s h = true ∧ bothJacks s h .lowered = true ∧ allHydraulic s h .engaged = true))) ∧
  s.imageValid = true ∧ sensingUsable s h = true ∧ s.tripped h = false ∧ jogOn s h = false ∧
  isBlocked s h (.step (closingStart s h)) = false

/-- The record that the layout of the copy gives a slot (R2, R23). -/
def rebuilt (p : Image) (id : CleatId) : Option CleatRec :=
  if p.fitted id then
    some {
      manual := p.isManual id
      sensor := !p.isManual id || p.hasSensor id
      service := .inService
      history := []
      verdict := if p.isManual id && !p.hasSensor id then .noSensor else .unverified
      confirmation := none
      retirement := none
      faultCount := 0
      tries := 0
      wanted := .no
      lost := false }
  else none

/-- A PLACE_HOLD of a kind and panel passes rows 1 to 8 of R34. -/
def Places (s : State) (f : RxFrame) (kind : HoldKind) (panel : Option Panel) : Prop :=
  Offers 7 s f ∧ s.imageValid = true ∧ holdKindOf (f.byte 2) = some kind ∧ f.scope ≠ 0 ∧
  panelOperand (f.byte 5) = some panel ∧ (panel = none ∨ (kind = .crane ∧ oneHatch f.scope = true)) ∧
  placeAuthority f.station kind f.scope = true ∧ s.retentionLost = false

/-- No entry of the list has these owner, kind, scope and panel (R27). -/
def NoMatch (s : State) (owner : StationId) (kind : HoldKind) (scope : BitVec 9) (panel : Option Panel) : Prop :=
  ∀ e ∈ s.holds.entries, ¬ (e.owner = owner ∧ e.kind = kind ∧ e.scope = scope ∧ e.panel = panel)

/-- The id that R28 gives: not held, the lowest above the counter, or the lowest at all where every id above it is held. -/
def NewId (l : HoldList) (id : Nat) : Prop :=
  1 ≤ id ∧ id ≤ 255 ∧ (∀ e ∈ l.entries, e.id ≠ id) ∧
  ((l.counter < id ∧ ∀ k, l.counter < k → k < id → ∃ e ∈ l.entries, e.id = k) ∨
    ((∀ k, l.counter < k → k ≤ 255 → ∃ e ∈ l.entries, e.id = k) ∧ ∀ k, 1 ≤ k → k < id → ∃ e ∈ l.entries, e.id = k))

/-- Nothing of this hatch waits on a hold, a trip or a jog: it carries no mark and has no wanted cleat. -/
def NothingWaits (s : State) (h : Hatch) : Prop := (s.ctx h).mark = false ∧ (reclampSet s h).isEmpty = true

/-- A step is safe when it answers with a next state: no command faults and none is refused. -/
def StepSafe (s : State) : Prop := ∃ t, step s = .next t

end Sys2Proof.Safety
end

