-- ==== Sys2Proof/Certificates/Slice0/Obligations.lean ====
section
/-!
DEFINITION. Certificates/Slice0/Obligations.lean: the statements. Each says in its docstring which rules it rests on. A
statement of the form "exec c s = .next t" with t written as a replacement of some fields of s says the frame too: every
other field of the part is as it was. Where an event hands on to other blocks, the part after it is described field by field.
-/

open Sys2Proof Sys2Proof.Machine Sys2Proof.Safety

/-! ### The part as a machine -/

/-- The command at the front of the queue is executed on the part with the rest of the queue. With no command waiting the step
is 10 ms of time: the model's own choice (assumption log 2). -/
def Obligations.FrontCommandRuns : Prop :=
  (∀ (c : Instr) (cs : List Instr) (s : State), step { s with pending := c :: cs } = exec c { s with pending := cs }) ∧
  ∀ s : State, s.pending = [] → step s = .next (tick s)

/-- Every command answers with a next state in every state, and none changes the queue of the commands that wait. That a command
whose occasion is not there leaves the part as it is, and that a command takes all the hand-offs of its event, are the model's
choices (assumption logs 5 and 1). -/
def Obligations.CommandsKeepQueue : Prop :=
  ∀ (c : Instr) (s : State), ∃ t, exec c s = .next t ∧ t.pending = s.pending

/-- The laws hold right after a reset, in State.reset, whose levels and empty retention memory are the model's choice (assumption
log 3), and in the state that every START_UP gives: of the Hold List (R26), of the Arbiter (R96, R98, R102, R105), of the pump sets
(R84), of the link (R160, R163), of the cleat records (R2, R15), of the tripped channels (R126) and of the securing verdicts (R18). -/
def Obligations.LawsHoldAtReset : Prop :=
  let lawful (t : State) : Prop :=
    HoldsLawful t ∧ FlowLawful t ∧ WithinFlow t ∧ OneStarting t ∧ LinkBounded t ∧ RecordsInRange t ∧ TrippedAtRest t ∧
      VerdictsCurrent t
  lawful State.reset ∧ ∀ s : State, s.inReset = true → ∃ t, exec .startUp s = .next t ∧ lawful t

/-! ### Reset and start-up -/

/-- RESET (R187): a pulse of RESET_N shorter than 10 microseconds changes nothing; any other reset holds the part with every
drive output, VSUP relay and start line off, ALL_SECURED deasserted, ALARM asserted, and no frame sent or accepted. -/
def Obligations.ResetSilencesOutputs : Prop :=
  (∀ (us : Nat) (s : State), us < 10 → exec (.reset (.resetN us)) s = .next s) ∧
  ∀ (src : ResetSource) (s : State), (∀ us, src = .resetN us → 10 ≤ us) →
    ∃ t, exec (.reset src) s = .next t ∧ t.inReset = true ∧
      (∀ h c, t.driverDir h c = none ∧ t.driverDuty h c = 0) ∧ (∀ h, t.vsupOn h = false) ∧ (∀ k, t.startLine k = false) ∧
      t.allSecured = false ∧ t.alarm = true ∧ t.link.tx = [] ∧ t.link.rx = [] ∧
      (∀ f, exec (.deckFrameArrival f) t = .next t) ∧ exec .frameSent t = .next t ∧ exec .broadcastCycle t = .next t

/-- START_UP (R188): every block takes its reset values: hatches UNKNOWN with empty contexts (R47), verdicts UNVERIFIED, channels at
rest with deadtime 2000 ms (R109), junctions LOST with their first poll sent (R130, R193), analog channels without value (R140),
stations ABSENT (R160), the Arbiter empty (R96), the supply at A 0 (R81, R91), the image READING, uptime 0; the latch of each open
loop is set (R125); a set found running is TRIPPED. With the retention memory valid the list holds the kept entries, STALE where a
station owns them; with it invalid exactly the RESTART entry, which blocks every motion (R46). -/
def Obligations.StartUpTakesResetValues : Prop :=
  ∀ s : State, s.inReset = true → ∃ t, exec .startUp s = .next t ∧ t.inReset = false ∧ t.resetCause = s.resetCause ∧
    t.uptime = 0 ∧ t.store.image = .reading ∧ t.store.copy = Image.default ∧ (∀ k, t.store.written.get k = false) ∧
    t.store.write = none ∧ t.store.unsaved = none ∧ t.link.rx = [] ∧ t.link.tx = [] ∧ t.link.overrun = false ∧
    (∀ h, t.ctx h = ⟨.unknown, none, 0, none, none, none, false⟩) ∧
    (∀ h, t.table.verdict.get h = .unverified) ∧ (∀ id, t.slot id = none) ∧
    (∀ h c, t.channel h c = {
      jogMaster := false
      target := ⟨.a, 0⟩
      sequencerTarget := ⟨.a, 0⟩
      working := none
      applied := 0
      duty := 0
      deadtime := 2000
      sensed := (s.channel h c).sensed
      mismatch := .none
      mismatchTimer := 0
      coilFault := false
      tookCommand := false }) ∧
    (∀ h, t.drive.cut.get h = false) ∧ t.drive.jog = none ∧
    (∀ h, t.junctions.get h = {
      state := .lost
      misses := 3
      frameErrors := 0
      missedScans := 0
      panels := ⟨⟨none, [], 0, 0, [], none, [], .unverified⟩, ⟨none, [], 0, 0, [], none, [], .unverified⟩⟩
      goodFrame := false
      poll := some (byteOf (h.val + 1)) }) ∧
    t.analog = ⟨⟨0, none, false, 0, 0, 0⟩, ⟨0, none, false, 0, 0, 0⟩, ⟨0, none, false, 0, 0, 0⟩, ⟨0, none, false, 0, 0, 0⟩⟩ ∧
    (∀ n, t.station n = ⟨false, 0, none⟩) ∧
    NoEntry t ∧ t.arbiter.counter = 0 ∧ t.arbiter.idleTimer = 0 ∧ t.arbiter.reductionTimer = 0 ∧
    t.supply.available = 0 ∧ supplyFlags t = 0 ∧ t.supply.lowTimer = 0 ∧ t.supply.recoveryTimer = 0 ∧
    t.stops.estopLatch = s.stops.estopOpen ∧
    (∀ h, t.stops.latch.get h = s.stops.loopOpen.get h ∧ t.stops.clearing.get h = 0) ∧
    (∀ k, t.pump k = {
      state := if (s.pump k).feedback then .tripped else .disabled
      rated := 0
      feedback := (s.pump k).feedback
      cause := if (s.pump k).feedback then some .failToStop else none
      timer := 0
      age := 0 }) ∧
    (s.retention.valid = true →
      t.holds.entries = s.retention.entries.map (fun e => { e with stale := decide (e.owner ≠ 15) }) ∧
      t.holds.counter = s.retention.counter) ∧
    (s.retention.valid = false →
      t.holds.entries = [⟨1, 15, .restart, 0x1FF, none, 1, false, 0⟩] ∧ t.holds.counter = 1 ∧
      t.retention.entries = t.holds.entries ∧ t.retention.checkOk = true ∧ t.retentionLost = true ∧
      ∀ h d, isBlocked t h d = true)

/-- IMAGE_READ_END with a whole, agreeing and sound image (R179, R180): the image is VALID, the copy takes the values, every pump set
takes its rating, and the table holds a record for exactly the fitted positions, each built from the layout with an empty history
and verdict UNVERIFIED, or NO_SENSOR (R2, R25). The kept fields that agree with the layout are applied; a record whose kept fields
do not is left as built and waits for its retention write (R23). With no entry and no mark each UNKNOWN hatch whose line is ONLINE
with both positions and jack verdicts is derived, HELD with cause RESTART where neither end is sensed (R50, R51), and where a panel
lies at or beyond stow length plus 100 mm (R69), also where R50 alone would give OPEN (assumption log 35). -/
def Obligations.ImageReadBuildsRecords : Prop :=
  ∀ (image : Image) (s : State), Running s → s.store.image = .reading → s.store.memoryFailing = false →
    image.inRange = true → image.sound = true →
    let kept (id : CleatId) : Kept := s.retention.cleats.get id
    let agrees (id : CleatId) : Prop :=
      (kept id).service.isSome = image.fitted id ∧
      ((kept id).service = some .handSet → image.isManual id = false) ∧
      ((kept id).confirmation ≠ none →
        (kept id).service = some .handSet ∨ ((kept id).service = some .inService ∧ image.isManual id = true))
    ∃ t, exec (.imageReadEnd image true) s = .next t ∧ t.imageValid = true ∧ t.store.copy = image ∧
      (∀ k, (t.pump k).rated = image.rated k) ∧
      (∀ id, (t.slot id).isSome = image.fitted id) ∧
      (∀ id r, t.slot id = some r → r.manual = image.isManual id ∧ r.history = [] ∧
        r.verdict = (if r.manual && !image.hasSensor id then .noSensor else .unverified) ∧
        r.tries = 0 ∧ r.wanted = .no ∧ r.lost = false) ∧
      (∀ id, image.fitted id = true → agrees id → keptOf (t.slot id) = kept id) ∧
      (∀ id, ¬ agrees id →
        let built : Kept := ⟨if image.fitted id then some .inService else none, none, none, 0⟩
        keptOf (t.slot id) = built ∧
        (t.retention.underWay = some (.cleat id built) ∨ RetItem.cleat id ∈ t.retention.waiting)) ∧
      t.holds = s.holds ∧ t.stops = s.stops ∧ t.junctions = s.junctions ∧ t.link.rx = s.link.rx ∧
      (NoEntry s → (∀ h, (s.ctx h).mark = false) → ∀ h,
        let j := s.junctions.get h
        let derivable : Bool :=
          decide ((s.ctx h).state = .unknown) && decide (j.state = .online) &&
          j.panels.both fun p => p.position.isSome && decide (p.jack ≠ .unverified)
        let st : HatchState :=
          if bothClosed t h && bothJacks t h .lowered then .closed
          else if bothStowed t h && bothJacks t h .lowered && !anyBeyondStow t h then .open else .held
        t.ctx h = if derivable then
            { s.ctx h with
              state := st
              held := if st = .held then some .restart else none
              next := none
              faults := 0
              lastFault := none }
          else s.ctx h)

/-- IMAGE_READ_END that fails a test, and IMAGE_READ_TIMEOUT (R179): the copy stands at the defaults, every
written mark is clear and the image is INVALID; nothing else changes. The model reads the spec so that this holds also after a
SET_PARAM taken while READING, and that an external memory left failing by a lost write is found failing (assumption logs 27 and
16). -/
def Obligations.ImageFailureLeavesDefaults : Prop :=
  ∀ s : State, Running s → s.store.image = .reading →
    let failed : State := { s with store := { s.store with
      image := .invalid, copy := Image.default, written := Tbl.fill 949 false } }
    exec .imageReadTimeout s = .next failed ∧
    ∀ (image : Image) (agrees : Bool),
      agrees = false ∨ s.store.memoryFailing = true ∨ image.inRange = false ∨ image.sound = false →
      exec (.imageReadEnd image agrees) s = .next failed

/-! ### Deck link -/

/-- DECK_FRAME_ARRIVAL (R161 to R163): a data frame with a standard identifier from 0x200 to 0x20D and eight bytes renews its
station's presence, makes the entries of a station that was ABSENT ACTIVE (R29), and joins the FIFO, or is dropped with the
overrun flag set where the FIFO holds 16; any other frame changes nothing. -/
def Obligations.FrameArrivalJoinsFifo : Prop :=
  (∀ (n : StationId) (data : List Byte) (s : State), s.inReset = false → n.val ≤ 13 → data.length = 8 →
    exec (.deckFrameArrival ⟨false, false, 0x200 + n.val, data⟩) s = .next { s with
      holds := { s.holds with
        entries := if (s.station n).present then s.holds.entries
          else s.holds.entries.map fun e => if e.owner = n then { e with stale := false } else e }
      link := { s.link with
        stations := s.link.stations.set n { s.station n with present := true, silence := 0 }
        rx := if s.link.rx.length < 16 then s.link.rx ++ [⟨n, eightBytes data⟩] else s.link.rx
        overrun := if s.link.rx.length < 16 then s.link.overrun else true
        droppedSinceShip := if s.link.rx.length < 16 then s.link.droppedSinceShip else true } }) ∧
  ∀ (f : CanFrame) (s : State),
    f.extended = true ∨ f.remote = true ∨ f.data.length ≠ 8 ∨ f.ident < 0x200 ∨ 0x20D < f.ident →
    exec (.deckFrameArrival f) s = .next s

/-- SILENCE_TIMER_EXPIRY (R162, R29): a PRESENT station becomes ABSENT, its timer stops at 5.0 s and its entries are STALE. Where a
frame of the same instant was taken first, the timer stands at 0 and the station stays PRESENT with nothing changed. -/
def Obligations.SilenceMakesStationAbsent : Prop :=
  ∀ (n : StationId) (s : State), s.inReset = false → (s.station n).present = true →
    (0 < (s.station n).silence → exec (.silenceTimerExpiry n) s = .next { s with
      holds := { s.holds with
        entries := s.holds.entries.map fun e => if e.owner = n then { e with stale := true } else e }
      link := { s.link with stations := s.link.stations.set n { s.station n with present := false, silence := 50 } } }) ∧
    ((s.station n).silence = 0 → exec (.silenceTimerExpiry n) s = .next s)

/-- UNKNOWN_REQUEST and PRESENCE (R164, R168, R190): the head of the FIFO leaves it and one answer joins the transmit list; a
kind that is not one of the 16 is answered UNKNOWN_REQUEST with the kind byte as it came, also to a station with an outstanding
request. -/
def Obligations.LinkPortAnswersItself : Prop :=
  (∀ (s : State) (f : RxFrame), takeable s = some f → f.kind = 0 ∨ 16 < f.kind →
    exec .unknownRequest s = .next { s with link := { s.link with
      rx := s.link.rx.tail
      tx := s.link.tx ++ [⟨0x280 + f.station.val, eightBytes [f.data.get 0, f.data.get 1, 5]⟩] } }) ∧
  ∀ (s : State) (f : RxFrame), Offers 1 s f →
    exec .presence s = .next { s with link := { s.link with
      rx := s.link.rx.tail
      tx := s.link.tx ++ [⟨0x280 + f.station.val, eightBytes ([f.data.get 0, f.data.get 1, 0,
        byteOf ((roleOf f.station).code * 16 + (if s.imageValid then 2 else 0) + s.resetCause.code)] ++
        bytes4 s.uptime)⟩] } }

/-- FRAME_SENT (R166, R174): the head of the transmit list leaves it; a ship frame built with the overrun flag set clears the
flag, unless a frame has been dropped since it was built. -/
def Obligations.SentFrameLeavesList : Prop :=
  ∀ (s : State) (x : TxFrame) (xs : List TxFrame), s.inReset = false → s.link.tx = x :: xs →
    exec .frameSent s = .next { s with link := { s.link with
      tx := xs
      overrun := if x.ident = 0x30B ∧ (x.data.get 0).getLsbD 5 = true ∧ s.link.droppedSinceShip = false then false
        else s.link.overrun } }

/-- BROADCAST_CYCLE (R172, R173, R192): the answers keep their places, the old broadcasts leave, and the frames of H1 to H9, the
supply frame and the ship frame join in that order, with the bytes of R192: a hatch frame its state and cause, step and phase,
verdict, mark and blocked flag, and the two positions in 10 mm; the supply frame A, S, the pump states and the flags; the ship
frame its six flags, the ten latches and the hold count. -/
def Obligations.BroadcastCycleRebuilds : Prop :=
  ∀ s : State, s.inReset = false →
    let cause (c : HatchCtx) : Nat :=
      if c.state = .held then (c.held.map HeldCause.code).getD 7
      else if c.state = .fault then (c.lastFault.map FaultCause.code).getD 7 else 7
    let step (c : HatchCtx) : Nat := match c.step with
      | some t => t.name.code * 16 + t.phase.code
      | none => 0
    let blocked (h : Hatch) : Nat := if s.holds.entries.any (fun e => e.scope.getLsbD h.val) then 2 else 0
    let position (h : Hatch) (p : Panel) : Nat := match (s.panel h p).position with
      | some x => x / 10
      | none => 65535
    let hatchBytes (h : Hatch) : List Byte :=
      [byteOf ((s.ctx h).state.code * 16 + cause (s.ctx h)), byteOf (step (s.ctx h)),
        byteOf ((s.table.verdict.get h).code * 16 + blocked h + if (s.ctx h).mark then 1 else 0),
        byteOf (position h .port / 256), byteOf (position h .port), byteOf (position h .stbd / 256), byteOf (position h .stbd), 0]
    let flow (k : PumpId) : Nat := if (s.pump k).state = .running then (s.pump k).rated else 0
    let sum : Nat := flow 0 + flow 1 + flow 2
    let flags : Nat := (if s.supply.lowPressure then 1 else 0) + (if s.supply.lowPressureSeen then 2 else 0) +
      (if s.supply.overtemp then 4 else 0) + if s.supply.overtempSeen then 8 else 0
    let supplyBytes : List Byte :=
      [byteOf (s.supply.available / 256), byteOf s.supply.available, byteOf (sum / 256), byteOf sum,
        byteOf ((s.pump 0).state.code * 16 + (s.pump 1).state.code), byteOf ((s.pump 2).state.code * 16), byteOf flags, 0]
    ∃ fs : List TxFrame,
      exec .broadcastCycle s = .next { s with link := { s.link with
        tx := s.link.tx.filter (fun t => decide (0x280 ≤ t.ident) && decide (t.ident ≤ 0x28D)) ++ fs
        droppedSinceShip := false } } ∧
      fs.map (·.ident) = [0x301, 0x302, 0x303, 0x304, 0x305, 0x306, 0x307, 0x308, 0x309, 0x30A, 0x30B] ∧
      (∀ h : Hatch, (fs[h.val]?).map (·.data.items) = some (hatchBytes h)) ∧
      (fs[9]?).map (·.data.items) = some supplyBytes ∧
      ∃ ship, fs.getLast? = some ship ∧
        (ship.data.get 0).getLsbD 0 = s.squallActive ∧ (ship.data.get 0).getLsbD 1 = s.allSecured ∧
        (ship.data.get 0).getLsbD 2 = s.retentionLost ∧ (ship.data.get 0).getLsbD 3 = s.imageValid ∧
        (ship.data.get 0).getLsbD 4 = decide (s.resetCause = .resetN) ∧ (ship.data.get 0).getLsbD 5 = s.link.overrun ∧
        (ship.data.get 2).getLsbD 0 = s.stops.estopLatch ∧
        (∀ h : Hatch, (ship.data.get 1 ++ ship.data.get 2).getLsbD (h.val + 1) = s.stops.latch.get h) ∧
        (s.holds.entries.length ≤ 255 → (ship.data.get 3).toNat = s.holds.entries.length) ∧
        ∀ k : Fin 8, 3 < k.val → ship.data.get k = 0

/-- The receive FIFO never holds more than 16 frames (R163), and stations 14 and 15 stay ABSENT with no outstanding request
(R160): every step keeps both. -/
def Obligations.StepKeepsLinkBounds : Prop :=
  ∀ s t : State, LinkBounded s → step s = .next t → LinkBounded t

/-! ### LOOK and FIND -/

/-- LOOK_CLEAT and LOOK_HATCH (R20, R170, R191): an id above 287 or a hatch that is not 1 to 9 is answered UNKNOWN_ITEM, a part
that the record does not have BAD_VALUE, a segment beyond the part BAD_VALUE, and otherwise OK with the five bytes of the segment
of the part's bytes as R191 lays them out. The bytes of an absent confirmation, an absent retirement and an ABSENT slot are read
from R191 by inference (assumption log 24). Nothing but the FIFO's head and the answer changes. -/
def Obligations.LookGivesRecordParts : Prop :=
  ∀ (s : State) (f : RxFrame), Offers 2 s f →
    let answered (part : List Byte) : State :=
      if 5 * f.byte 4 < part.length then reply (popped s) f .ok ((part.drop (5 * f.byte 4)).take 5)
      else reply (popped s) f .badValue
    let flag (b : Bool) (weight : Nat) : Nat := if b then weight else 0
    (f.byte 2 = 0 →
      (287 < f.word 6 → exec .lookCleat s = .next (reply (popped s) f .unknownItem)) ∧
      ∀ id : CleatId, f.word 6 = id.val →
        let standing : List Byte := match s.slot id with
          | none => [3, 0, 0, 0, 0]
          | some r => [byteOf r.service.code, byteOf r.verdict.code, byteOf (r.wanted.code * 16 + r.tries),
              byteOf (flag r.manual 1 + flag r.sensor 2 + flag r.mismatch 4 + flag r.lost 8 + flag r.confirmation.isSome 16 +
                flag r.retirement.isSome 32), byteOf r.faultCount]
        let confirmation : List Byte := match (s.slot id).bind (·.confirmation) with
          | none => [240, 0, 0, 0, 0]
          | some c => byteOf ((if c.fastened then 0 else 16) + c.station.val) :: bytes4 c.time
        let retirement : List Byte := match (s.slot id).bind (·.retirement) with
          | none => [0, 0, 0, 0, 0]
          | some c => byteOf (128 + c.station.val) :: bytes4 c.time
        let history : List Sample := ((s.slot id).map (·.history)).getD []
        let pair (k : Nat) : Nat := match history[k]? with
          | none => 0
          | some x => flag x.first 2 + flag x.second 1
        (f.byte 3 = 0 → exec .lookCleat s = .next (answered standing)) ∧
        (f.byte 3 = 1 → exec .lookCleat s = .next (answered confirmation)) ∧
        (f.byte 3 = 2 → exec .lookCleat s = .next (answered retirement)) ∧
        (f.byte 3 = 3 → exec .lookCleat s = .next (answered [byteOf history.length,
          byteOf (pair 0 * 64 + pair 1 * 16 + pair 2 * 4 + pair 3), byteOf (pair 4 * 64 + pair 5 * 16 + pair 6 * 4 + pair 7)])) ∧
        (3 < f.byte 3 → exec .lookCleat s = .next (reply (popped s) f .badValue))) ∧
    (f.byte 2 = 2 →
      (f.byte 5 = 0 ∨ 9 < f.byte 5 → exec .lookHatch s = .next (reply (popped s) f .unknownItem)) ∧
      ∀ h : Hatch, f.byte 5 = h.val + 1 →
        let c := s.ctx h
        let blocked : Bool := s.holds.entries.any fun e => e.scope.getLsbD h.val
        let wanted (lo hi : Nat) : Bool := (List.finRange 288).any fun id =>
          decide (cleatHatch id = h ∧ lo ≤ id.val % 32 ∧ id.val % 32 ≤ hi) &&
            ((s.slot id).map fun r => decide (r.wanted ≠ .no)).getD false
        let sequence : List Byte :=
          [byteOf c.state.code, byteOf ((c.held.map HeldCause.code).getD 7),
            byteOf (match c.next with
              | some (.held k) => k.code
              | some .closing => 6
              | none => 7),
            byteOf c.faults.toNat, byteOf ((c.lastFault.map FaultCause.code).getD 7)] ++
          (match c.step with
            | none => [0, 0, 0, 0, 0, 0, 0, 255, 255]
            | some t => [byteOf t.name.code, byteOf t.cls.code, byteOf t.phase.code] ++ bytes2 t.elapsed ++
                bytes2 ((t.grant.map (·.share)).getD 0) ++ bytes2 ((t.grant.bind (·.roll)).getD 65535)) ++
          [byteOf (flag c.mark 1 + flag blocked 2), byteOf (flag (wanted 0 13) 1 + flag (wanted 14 27) 2 + flag (wanted 28 31) 4)]
        let coil (x : Channel) (weight : Nat) : Nat := flag (s.channel h x).coilFault weight
        let securing : List Byte :=
          [byteOf (s.table.verdict.get h).code] ++
          bytes2 (match s.table.reason.get h with
            | some (.cleat id) => id.val
            | some .retiredExcess => 65532
            | some .panelPort => 65533
            | some .panelStbd => 65534
            | none => 65535) ++
          [byteOf (flag (s.stops.latch.get h) 1 + flag s.stops.estopLatch 2), if s.vsupOn h then 1 else 0,
            byteOf (coil .rollPort 1 + coil .rollStbd 2 + coil .jackPort 4 + coil .jackStbd 8 + coil .cleatPort 16 +
              coil .cleatStbd 32 + coil .cleatCross 64)] ++
          (match s.drive.jog with
            | some j => if j.hatch = h then [byteOf j.channel.code, byteOf j.phase.code] else [255, 0]
            | none => [255, 0])
        (f.byte 3 = 0 → exec .lookHatch s = .next (answered sequence)) ∧
        (f.byte 3 = 1 → exec .lookHatch s = .next (answered securing)) ∧
        (1 < f.byte 3 → exec .lookHatch s = .next (reply (popped s) f .badValue)))

/-- LOOK_HOLD, LOOK_SUPPLY, LOOK_SENSING, LOOK_STATION and LOOK_PARAM (R43, R108, R144, R171, R184, R191): the owner's checks
first, then part 0 alone, then the segment, with the bytes that R191 lays out; nothing but the FIFO's head and the answer changes.
Read from the spec by inference or chosen: a hold selector above 1 is BAD_VALUE (assumption log 13), the codes of presence and run
feedback (log 4), the reserve and the derate of the supply record computed from the default parameters while the image is not VALID
(assumption log 6), an item without index is named with index 0 (log 15), the zeros of a PARAM record with no clear mark (log 24),
and the asking station's own LOOK as its outstanding request with the FIFO less that LOOK (log 25). -/
def Obligations.LookGivesWholeRecords : Prop :=
  ∀ (s : State) (f : RxFrame), Offers 2 s f →
    let answered (part : List Byte) : State :=
      if f.byte 3 = 0 ∧ 5 * f.byte 4 < part.length then reply (popped s) f .ok ((part.drop (5 * f.byte 4)).take 5)
      else reply (popped s) f .badValue
    let unknown : State := reply (popped s) f .unknownItem
    let flag (b : Bool) (weight : Nat) : Nat := if b then weight else 0
    let hold (pos : Nat) (e : HoldEntry) : List Byte :=
      [byteOf pos, byteOf e.id, byteOf e.owner.val, byteOf e.kind.code] ++ bytes2 e.scope.toNat ++
        [match e.panel with
          | none => 0
          | some .port => 1
          | some .stbd => 2, byteOf e.count, if e.stale then 1 else 0] ++ bytes4 e.placed
    let running (k : PumpId) : Nat := if (s.pump k).state = .running then (s.pump k).rated else 0
    let supply : List Byte :=
      bytes2 (running 0 + running 1 + running 2) ++ bytes2 (derate s) ++ [byteOf s.params.reserve] ++
        bytes2 s.supply.available ++
        [byteOf (flag s.supply.lowPressure 1 + flag s.supply.lowPressureSeen 2 + flag s.supply.overtemp 4 +
          flag s.supply.overtempSeen 8), byteOf s.arbiter.pending.length] ++
        ((s.arbiter.pending.map fun (e : Entry) => byteOf ((e.hatch.val + 1) * 16 + e.cls.code * 4 + flag e.shed 1)) ++
          List.replicate 9 0).take 9 ++
        [byteOf s.arbiter.granted.length] ++
        ((s.arbiter.granted.flatMap fun (g : Granted) => byteOf (g.entry.hatch.val + 1) :: bytes2 g.grant.share) ++
          List.replicate 27 0).take 27
    let pump (k : PumpId) : List Byte :=
      let p := s.pump k
      [byteOf p.state.code] ++ bytes2 p.rated ++
        [if p.state = .starting ∨ p.state = .running then 1 else 0, if p.feedback then 1 else 0,
          match p.cause with
            | none => 0
            | some .failToStart => 1
            | some .runLost => 2
            | some .failToStop => 3] ++ bytes2 p.timer
    let panel (p : PanelSense) : List Byte :=
      bytes2 (p.position.getD 65535) ++ signed2 (p.speed.getD (-32768)) ++ [byteOf p.jack.code] ++ bytes2 p.rejectTotal
    let junction (j : Junction) : List Byte :=
      [byteOf j.state.code, byteOf j.misses] ++ bytes2 j.frameErrors ++ bytes2 j.missedScans ++ panel j.panels.port ++
        panel j.panels.stbd
    let analog (r : AnalogRec) : List Byte :=
      bytes2 r.code ++ signed2 (r.value.getD (-32768)) ++ [if r.fault then 1 else 0] ++ bytes2 r.faultCount
    let station (n : StationId) : List Byte :=
      let r := s.station n
      [byteOf (roleOf n).code, if r.present then 1 else 0, byteOf r.silence] ++
        (if n = f.station then [2, f.data.get 1] else match r.outstanding with
          | none => [0, 0]
          | some o => [o.kind, o.tag]) ++
        [byteOf (s.link.rx.length - 1), if s.link.overrun then 1 else 0]
    let named (i : Option (Nat × Nat)) : List Byte := match i with
      | none => [0, 0, 0]
      | some (item, idx) => byteOf item :: bytes2 idx
    let clear : List (Fin 949) :=
      if s.imageValid then [] else (List.finRange 949).filter fun k => !s.store.written.get k
    let param (item idx : Nat) : List Byte :=
      signed2 (s.store.copy.item item idx) ++ signed2 (Image.default.item item idx) ++
        [if (List.finRange 949).any fun k => decide (k.val = itemPlace item idx) && s.store.written.get k then 1 else 0,
          byteOf s.store.image.code] ++ bytes2 clear.length ++
        named (clear.head?.map fun k => placeItem k.val) ++ named (s.store.write.map fun w => (w.item, w.index)) ++
        named s.store.unsaved
    (f.byte 2 = 1 → f.byte 5 = 0 →
      (47 < f.byte 6 → exec .lookHold s = .next (reply (popped s) f .badValue)) ∧
      (f.byte 6 ≤ 47 → s.holds.entries[f.byte 6]? = none → exec .lookHold s = .next (reply (popped s) f .notFound)) ∧
      ∀ e, f.byte 6 ≤ 47 → s.holds.entries[f.byte 6]? = some e →
        exec .lookHold s = .next (answered (hold (f.byte 6) e))) ∧
    (f.byte 2 = 1 → f.byte 5 = 1 →
      ((∀ e ∈ s.holds.entries, e.id ≠ f.byte 6) → exec .lookHold s = .next unknown) ∧
      ∀ pos e, s.holds.entries.findIdx? (fun x => decide (x.id = f.byte 6)) = some pos → s.holds.entries[pos]? = some e →
        exec .lookHold s = .next (answered (hold pos e))) ∧
    (f.byte 2 = 1 → 1 < f.byte 5 → exec .lookHold s = .next (reply (popped s) f .badValue)) ∧
    (f.byte 2 = 3 →
      (f.byte 5 = 0 → exec .lookSupply s = .next (answered supply)) ∧
      (∀ k : PumpId, f.byte 5 = k.val + 1 → exec .lookSupply s = .next (answered (pump k))) ∧
      (3 < f.byte 5 → exec .lookSupply s = .next unknown)) ∧
    (f.byte 2 = 4 →
      (∀ h : Hatch, f.byte 5 = h.val + 1 → exec .lookSensing s = .next (answered (junction (s.junctions.get h)))) ∧
      (f.byte 5 = 10 → exec .lookSensing s = .next (answered (analog s.analog.pressure))) ∧
      (f.byte 5 = 11 → exec .lookSensing s = .next (answered (analog s.analog.temperature))) ∧
      (f.byte 5 = 12 → exec .lookSensing s = .next (answered (analog s.analog.heel))) ∧
      (f.byte 5 = 13 → exec .lookSensing s = .next (answered (analog s.analog.wind))) ∧
      (f.byte 5 = 0 ∨ 13 < f.byte 5 → exec .lookSensing s = .next unknown)) ∧
    (f.byte 2 = 5 →
      (∀ n : StationId, f.byte 5 = n.val → exec .lookStation s = .next (answered (station n))) ∧
      (15 < f.byte 5 → exec .lookStation s = .next unknown)) ∧
    (f.byte 2 = 6 →
      (itemExists (f.byte 5) (f.word 6) = true →
        exec .lookParam s = .next (answered (param (f.byte 5) (f.word 6)))) ∧
      (itemExists (f.byte 5) (f.word 6) = false → exec .lookParam s = .next unknown))

/-- FIND (R21, R44): with the image VALID and start and filter in range, FIND_CLEAT answers the lowest id from the start that
matches, with its service and verdict, and FIND_HOLD the first position from the start whose entry covers the hatch (every
entry for hatch 0), with the entry's id, kind, count and state; NOT_FOUND where none matches. Nothing else changes. -/
def Obligations.FindGivesFirstMatch : Prop :=
  ∀ (s : State) (f : RxFrame), Offers 3 s f → s.imageValid = true →
    let cleat (id : CleatId) : Prop := ∃ r, s.slot id = some r ∧ r.matchesFilter (f.byte 5) = true
    let hold (e : HoldEntry) : Prop := f.byte 5 = 0 ∨ ∃ h : Hatch, f.byte 5 = h.val + 1 ∧ e.covers h = true
    (f.byte 2 = 0 → f.word 3 ≤ 287 → f.byte 5 ≤ 5 →
      ((∀ id : CleatId, f.word 3 ≤ id.val → ¬ cleat id) → exec .findCleat s = .next (reply (popped s) f .notFound)) ∧
      ∀ (id : CleatId) (r : CleatRec), f.word 3 ≤ id.val → s.slot id = some r → r.matchesFilter (f.byte 5) = true →
        (∀ j : CleatId, f.word 3 ≤ j.val → j.val < id.val → ¬ cleat j) →
        exec .findCleat s =
          .next (reply (popped s) f .ok (bytes2 id.val ++ [byteOf r.service.code, byteOf r.verdict.code]))) ∧
    (f.byte 2 = 1 → f.word 3 ≤ 47 → f.byte 5 ≤ 9 →
      ((∀ (pos : Nat) (e : HoldEntry), f.word 3 ≤ pos → s.holds.entries[pos]? = some e → ¬ hold e) →
        exec .findHold s = .next (reply (popped s) f .notFound)) ∧
      ∀ (pos : Nat) (e : HoldEntry), f.word 3 ≤ pos → s.holds.entries[pos]? = some e → hold e →
        (∀ (j : Nat) (x : HoldEntry), f.word 3 ≤ j → j < pos → s.holds.entries[j]? = some x → ¬ hold x) →
        exec .findHold s = .next (reply (popped s) f .ok
          [byteOf pos, byteOf e.id, byteOf e.kind.code, byteOf e.count, byteOf (if e.stale then 1 else 0)]))

/-! ### Hold List -/

/-- The laws of the Hold List (R26) hold after every step from a state in which they hold. -/
def Obligations.StepKeepsHoldLaws : Prop :=
  ∀ s t : State, HoldsLawful s → step s = .next t → HoldsLawful t

/-- PLACE_HOLD answered OK (R34, R35, R28): a new entry joins the tail of the list with the id of R28, count 1, the owner's
presence as its state and the uptime; the counter takes the id, the list waits for its retention write, and the answer carries
id and count. Where no hatch of the scope has a step or a jog nothing else changes. -/
def Obligations.PlacementJoins : Prop :=
  ∀ (s : State) (f : RxFrame) (kind : HoldKind) (panel : Option Panel),
    Places s f kind panel → NoMatch s f.station kind f.scope panel → s.holds.entries.length < 48 →
    (∀ h t, (s.ctx h).step = some t → f.scope.getLsbD h.val = false) →
    (∀ j, s.drive.jog = some j → f.scope.getLsbD j.hatch.val = false) →
    ∃ id, NewId s.holds id ∧
      exec .placeHold s = .next (reply
        (retain { popped s with holds :=
          ⟨s.holds.entries ++ [⟨id, f.station, kind, f.scope, panel, 1, !(s.station f.station).present, s.uptime⟩], id⟩ } .holds)
        f .ok [byteOf id, 1])

/-- PLACE_HOLD that matches an entry (R34, R36): MERGED with the count one higher at the same position, or COUNT_FULL with the
entry unchanged at count 15; a list of 48 with no match answers FULL. -/
def Obligations.MatchingPlacementMerges : Prop :=
  (∀ (s : State) (f : RxFrame) (e : HoldEntry), HoldsLawful s → e ∈ s.holds.entries → e.owner = f.station →
    e.scope = f.scope → Places s f e.kind e.panel →
    (e.count < 15 → exec .placeHold s = .next (reply
      (retain { popped s with holds := { s.holds with
        entries := s.holds.entries.map fun x => if x.id = e.id then { x with count := x.count + 1 } else x } } .holds)
      f .merged [byteOf e.id, byteOf (e.count + 1)])) ∧
    (e.count = 15 → exec .placeHold s = .next (reply (popped s) f .countFull [byteOf e.id, 15]))) ∧
  ∀ (s : State) (f : RxFrame) (kind : HoldKind) (panel : Option Panel), Places s f kind panel →
    NoMatch s f.station kind f.scope panel → 48 ≤ s.holds.entries.length →
    exec .placeHold s = .next (reply (popped s) f .full)

/-- A placement withdraws the step it blocks (R37, R59, R60): the hatch goes STOPPING with recorded next state HELD (HOLD), its
step is gone, its targets stand at command 0, its entry has left the Arbiter, and no other hatch changes. Here the hatch alone
stands in the scope and in the Arbiter, and a channel of it is not yet at rest. -/
def Obligations.PlacementStopsMotion : Prop :=
  ∀ (s : State) (f : RxFrame) (kind : HoldKind) (h : Hatch) (t : StepCtx),
    Places s f kind none → NoMatch s f.station kind f.scope none → s.holds.entries.length < 48 →
    f.scope = BitVec.ofNat 9 (2 ^ h.val) → (s.ctx h).step = some t → kind.blocks (stepMotion t.name) = true →
    ((s.ctx h).state = .opening ∨ (s.ctx h).state = .closing) → OnlyEntryOf s h → s.drive.jog = none →
    (∃ c, (s.channel h c).applied ≠ 0) →
    ∃ u, exec .placeHold s = .next u ∧
      u.ctx h = { s.ctx h with state := .stopping, held := none, next := some (.held .hold), step := none } ∧
      (∀ g, g ≠ h → u.ctx g = s.ctx g) ∧ NoEntry u ∧ (∀ c, (u.channel h c).sequencerTarget.command = 0) ∧
      (∀ g c, g ≠ h → u.channel g c = s.channel g c) ∧ u.supply = s.supply ∧
      u.holds.entries.dropLast = s.holds.entries ∧ isBlocked u h (.step t.name) = true

/-- LIFT_HOLD by the owner (R40), whatever KEY_OVERRIDE reads: a count above 1 goes down by one at its position; at count 1 the
entry leaves the list. The answer carries the id and the count that remains. -/
def Obligations.OwnerLiftLowersCount : Prop :=
  ∀ (s : State) (f : RxFrame) (e : HoldEntry) (key : Bool), HoldsLawful s → Offers 8 s f → s.imageValid = true →
    e ∈ s.holds.entries → e.id = f.byte 2 → e.kind ≠ .restart → e.owner = f.station → roleOf f.station ≠ .monitor →
    (1 < e.count → exec (.liftHold key) s = .next (reply
      (retain { popped s with
        keyOverride := key
        holds := { s.holds with
          entries := s.holds.entries.map fun x => if x.id = e.id then { x with count := x.count - 1 } else x } } .holds)
      f .ok [byteOf e.id, byteOf (e.count - 1)])) ∧
    (e.count = 1 →
      let lifted : State := retain { popped s with
        keyOverride := key
        holds := { s.holds with entries := s.holds.entries.filter fun x => x.id != e.id } } .holds
      ∃ u, exec (.liftHold key) s = .next u ∧ SameElsewhere lifted u ∧
        (∃ xs, u.link.tx = s.link.tx ++ answerFrame f .ok [byteOf e.id, 0] :: xs) ∧
        ((∀ h, e.covers h = true → NothingWaits s h) → u = reply lifted f .ok [byteOf e.id, 0]))

/-- LIFT_HOLD by another station (R39, R41): BRIDGE removes a RESTART entry with no key, and a PERSONNEL, LOADER or CRANE entry
whole with KEY_OVERRIDE closed; every other such request is answered NOT_OWNER with id, count and owner, and the list stands. -/
def Obligations.OverrideLiftRemovesWhole : Prop :=
  ∀ (s : State) (f : RxFrame) (e : HoldEntry) (key : Bool), HoldsLawful s → Offers 8 s f → s.imageValid = true →
    e ∈ s.holds.entries → e.id = f.byte 2 → e.owner ≠ f.station → roleOf f.station ≠ .monitor →
    let mayLift : Prop := roleOf f.station = .bridge ∧ (e.kind = .restart ∨ (e.kind ≠ .lockout ∧ key = true))
    (mayLift →
      ∃ u, exec (.liftHold key) s = .next u ∧ (∃ xs, u.link.tx = s.link.tx ++ answerFrame f .ok [byteOf e.id, 0] :: xs) ∧
        SameElsewhere (retain { popped s with
          keyOverride := key
          holds := { s.holds with entries := s.holds.entries.filter fun x => x.id != e.id } } .holds) u) ∧
    (¬ mayLift →
      exec (.liftHold key) s =
        .next (reply { popped s with keyOverride := key } f .notOwner [byteOf e.id, byteOf e.count, byteOf e.owner.val]))

/-! ### Securing Table -/

/-- CONFIRM_CLEAT answered OK (R9, R10): the confirmation takes state, station and uptime, the record waits for its retention
write, and the verdict of the hatch is decided afresh; nothing else changes. The hatch carries no squall mark here. -/
def Obligations.ConfirmationReplacesPart : Prop :=
  ∀ (s : State) (f : RxFrame) (id : CleatId) (r : CleatRec), Offers 9 s f → s.imageValid = true → f.word 2 = id.val →
    (f.station = localStation (cleatHatch id) ∨ roleOf f.station = .service) → s.slot id = some r →
    ((r.service = .inService ∧ r.manual = true) ∨ r.service = .handSet) → (s.ctx (cleatHatch id)).mark = false →
    let confirmed (fastened : Bool) : State :=
      judged (reply
        (retain ((popped s).setSlot id (some { r with confirmation := some ⟨fastened, f.station, s.uptime⟩ })) (.cleat id))
        f .ok (bytes2 id.val ++ [if fastened then 0 else 1])) (cleatHatch id)
    (f.byte 4 = 0 → (s.ctx (cleatHatch id)).state = .closed → exec .confirmCleat s = .next (confirmed true)) ∧
    (f.byte 4 = 0 → (s.ctx (cleatHatch id)).state ≠ .closed → exec .confirmCleat s = .next (reply (popped s) f .notReady)) ∧
    (f.byte 4 = 1 → (s.ctx (cleatHatch id)).state.isMoving = false → exec .confirmCleat s = .next (confirmed false)) ∧
    (f.byte 4 = 1 → (s.ctx (cleatHatch id)).state.isMoving = true → exec .confirmCleat s = .next (reply (popped s) f .busy))

/-- SET_SERVICE answered OK (R12, R13): the record takes the service, loses its confirmation, tries and LOST, takes a retirement
part exactly where it is RETIRED, and keeps its wanted field only IN_SERVICE; the verdict of the hatch is decided afresh and
nothing else changes. The hatch has no motion, no Arbiter entry and no mark, and no wanted cleat leaves the reclamp set. -/
def Obligations.ServiceChangeResetsRecord : Prop :=
  ∀ (s : State) (f : RxFrame) (id : CleatId) (r : CleatRec) (sv : Service), Offers 10 s f → s.imageValid = true →
    f.word 2 = id.val → (roleOf f.station = .bridge ∨ roleOf f.station = .service) → s.slot id = some r →
    f.byte 4 = sv.code → (sv = .handSet → r.manual = false) →
    ((s.ctx (cleatHatch id)).state.isMoving = true ∨ s.arbiter.has (cleatHatch id) = true →
      exec .setService s = .next (reply (popped s) f .busy)) ∧
    ((s.ctx (cleatHatch id)).state.isMoving = false → s.arbiter.has (cleatHatch id) = false →
      (s.ctx (cleatHatch id)).mark = false → (r.wanted = .no ∨ sv = .inService) →
      exec .setService s = .next (judged (reply
        (retain ((popped s).setSlot id (some { r with
          service := sv
          confirmation := none
          retirement := if sv = .retired then some ⟨f.station, s.uptime⟩ else none
          tries := 0
          wanted := if sv = .inService then r.wanted else .no
          lost := false })) (.cleat id))
        f .ok (bytes2 id.val ++ [byteOf sv.code])) (cleatHatch id)))

/-- The verdict and reason that the table holds are at every step those of R16 and R17 (R18). -/
def Obligations.StepKeepsVerdictsCurrent : Prop :=
  ∀ s t : State, VerdictsCurrent s → step s = .next t → VerdictsCurrent t

/-- What ALL_SECURED says (R16, R19): every hatch is CLOSED on a line that is not LOST, both panels are LOWERED in the closed band,
each counted cleat is ENGAGED or, counted by confirmation, FASTENED without a mismatch, and the retired count is within the
allowance. -/
def Obligations.AllSecuredIsSound : Prop :=
  ∀ s : State, VerdictsCurrent s → s.allSecured = true → ∀ h,
    (s.ctx h).state = .closed ∧ (s.junctions.get h).state ≠ .lost ∧
    (∀ p, (s.panel h p).jack = .lowered ∧ inClosedBand s h p = true) ∧
    (∀ id r, cleatHatch id = h → s.slot id = some r → r.service ≠ .retired →
      (r.service = .inService → r.manual = false → r.verdict = .engaged) ∧
      (r.service = .handSet ∨ r.manual = true → r.isFastened = true ∧ (r.sensor = true → r.verdict = .engaged))) ∧
    retiredCount s h ≤ s.params.allowance h

/-- The tries, fault count and history of every record stay in their ranges (R2, R15) at every step, and so do the fault counts
that the retention memory keeps (R24). -/
def Obligations.StepKeepsRecordRanges : Prop :=
  ∀ s t : State, RecordsInRange s → step s = .next t → RecordsInRange t

/-! ### Hatch sequences -/

/-- MOVE accepted while no flow is at hand (R62, R73, R74, R54, R96, R104): the hatch takes OPENING or CLOSING, its start step is
QUEUED, or GATED where it is a ROLL step outside the heel limit; a queued step has the Arbiter's one entry, and the lowest OFF
pump set is started where none is STARTING. The answer carries the new state and the start step. -/
def Obligations.MoveQueuesStartStep : Prop :=
  ∀ (s : State) (f : RxFrame) (h : Hatch) (opening : Bool) (start : StepName), Moves s f h opening start →
    s.supply.available < s.params.stepM start →
    let gated : Bool := start.isRoll && heelGates s
    let cls := classFor (s.ctx h) start
    ∃ t, exec .move s = .next t ∧
      t.ctx h = { s.ctx h with
        state := if opening then .opening else .closing
        held := none
        next := none
        step := some (joined start cls (if gated then .gated else .queued)) } ∧
      OtherHatchesKept s t h ∧ SameElsewhere (popped s) t ∧ t.arbiter.granted = [] ∧
      t.arbiter.pending = (if gated then []
        else [⟨h, .step start, cls, s.params.stepN start, s.params.stepM start, s.arbiter.counter + 1, false⟩]) ∧
      (∀ k, (t.pump k).state =
        if gated = false ∧ anyPump s .starting = false ∧ lowestOff s = some k then .starting else (s.pump k).state) ∧
      t.link.tx = s.link.tx ++ [answerFrame f .accepted
        [byteOf (h.val + 1), byteOf (HatchState.code (if opening then .opening else .closing)), byteOf start.code]]

/-- MOVE accepted with flow at hand (R52, R53, R55, R62 to R66, R102, R105, R106): whichever of the eight start steps of R62 it is, a
step whose M fits in the available flow is ACTIVE at once with the smaller of N and the flow as its share, a ROLL step within the
heel limits with the roll command floor(1000 × share / N) and the arrival flags of the panels in their band; its channels take
their targets, cleats RELEASE or ENGAGE, jacks UP or DOWN, and each roll channel OUT or IN with command 0 for an arrived or waiting
panel, at most creep in the slow zone or in high wind, and the roll command elsewhere; every other channel of the hatch has
command 0. An ENGAGE whose cleats are all ENGAGED already would complete at once and is left out. -/
def Obligations.MoveWithFlowDrivesValves : Prop :=
  ∀ (s : State) (f : RxFrame) (h : Hatch) (opening : Bool) (start : StepName), Moves s f h opening start →
    s.params.stepM start ≤ s.supply.available → s.params.stepM start ≤ s.params.stepN start →
    (start = .engage → allHydraulic s h .engaged = false) →
    (start.isRoll = true → heelGates s = false ∧ heelStops s = false) →
    let share := min (s.params.stepN start) s.supply.available
    let roll := 1000 * share / s.params.stepN start
    let arrives (p : Panel) : Bool := if start = .rollOut then isStowed s h p else inClosedBand s h p
    let lead := s.params.lead h
    let command (p : Panel) : Nat :=
      if arrives p then 0
      else if start = .rollIn ∧ p ≠ lead ∧ arrives lead = false ∧ (s.panel h p).position.getD 0 ≤ s.params.wait then 0
      else if inSlowZone s h p (start = .rollOut) = true ∨ windCreeps s = true then min roll s.params.creep
      else roll
    ∃ t, exec .move s = .next t ∧
      (t.ctx h).state = (if opening then .opening else .closing) ∧
      (t.ctx h).step = some { joined start (classFor (s.ctx h) start) .active with
        started := true
        grant := some ⟨share, if start.isRoll then some roll else none⟩
        arrived := if start.isRoll then ⟨arrives .port, arrives .stbd⟩ else ⟨false, false⟩ } ∧
      OtherHatchesKept s t h ∧ t.arbiter.pending = [] ∧
      (∀ c, (t.channel h c).sequencerTarget =
        match start, c with
        | .release, .cleatPort | .release, .cleatStbd | .release, .cleatCross => ⟨.b, 1000⟩
        | .engage, .cleatPort | .engage, .cleatStbd | .engage, .cleatCross => ⟨.a, 1000⟩
        | .lift, .jackPort | .lift, .jackStbd | .unpark, .jackPort | .unpark, .jackStbd => ⟨.a, 1000⟩
        | .park, .jackPort | .park, .jackStbd | .lower, .jackPort | .lower, .jackStbd => ⟨.b, 1000⟩
        | .rollOut, .rollPort => ⟨.a, command .port⟩
        | .rollOut, .rollStbd => ⟨.a, command .stbd⟩
        | .rollIn, .rollPort => ⟨.b, command .port⟩
        | .rollIn, .rollStbd => ⟨.b, command .stbd⟩
        | _, c => ⟨(s.channel h c).sequencerTarget.dir, 0⟩) ∧
      ∀ c, (t.channel h c).applied = (s.channel h c).applied ∧
        ((s.channel h c).jogMaster = false → (t.channel h c).target = (t.channel h c).sequencerTarget)

/-- MOVE OPEN on a hatch that carries a squall mark, on a tripped one, or on one whose start step a hold blocks is answered so and
changes nothing (R73, rows 5, 6 and 10); without authority it is refused first. -/
def Obligations.MoveRefusalsChangeNothing : Prop :=
  ∀ (s : State) (f : RxFrame) (h : Hatch), Offers 4 s f → f.byte 2 = h.val + 1 → f.byte 3 = 0 →
    let answered (c : Code) : State :=
      reply (popped s) f c [byteOf (h.val + 1), byteOf (s.ctx h).state.code, 0]
    let mayMove : Prop := roleOf f.station = .bridge ∨ roleOf f.station = .cargo ∨ f.station = localStation h
    (¬ mayMove → exec .move s = .next (answered .refusedAuthority)) ∧
    (mayMove → s.imageValid = false ∨ (s.ctx h).state = .unknown ∨ sensingUsable s h = false →
      exec .move s = .next (answered .notReady)) ∧
    (mayMove → s.imageValid = true → sensingUsable s h = true → (s.ctx h).state = .fault →
      exec .move s = .next (answered .faulted)) ∧
    (mayMove → s.imageValid = true → sensingUsable s h = true →
      ((s.ctx h).state = .closed ∨ (s.ctx h).state = .held) →
      (s.tripped h = true → exec .move s = .next (answered .tripped)) ∧
      (s.tripped h = false → (s.ctx h).mark = true → exec .move s = .next (answered .squallActive)) ∧
      (s.tripped h = false → (s.ctx h).mark = false → jogOn s h = false → handFastened s h = false →
        ∀ start, openingStart s h = some start → isBlocked s h (.step start) = true →
          exec .move s = .next (answered .blocked)))

/-- HALT (R75, R76, R59, R60, R151). A moving hatch goes STOPPING with next state HELD (HALT), or stands HELD (HALT) at once with its
channels at rest; a CLOSED hatch gives up its RECLAMP, whose wanted cleats are LOST; a STOPPING hatch turns a next state of CLOSING
into HELD (HALT); any other stays. A jog ends. In each case the mark clears. ALL does so to every hatch and answers the number of
hatches stopped. That an answer carries the state after all hand-offs is read from the spec by inference (assumption log 9). -/
def Obligations.HaltStopsMotion : Prop :=
  let halted (s : State) (h : Hatch) (c : HatchCtx) : Prop :=
    ((s.ctx h).state = .opening ∨ (s.ctx h).state = .closing → c = { s.ctx h with
      state := if channelsAtRest s h then .held else .stopping
      held := if channelsAtRest s h then some .halt else none
      next := if channelsAtRest s h then none else some (.held .halt)
      step := none
      mark := false }) ∧
    (Reclamping s h → c = { s.ctx h with step := none, mark := false }) ∧
    ((s.ctx h).state = .stopping → c = { s.ctx h with
      next := if (s.ctx h).next = some .closing then some (.held .halt) else (s.ctx h).next
      mark := false }) ∧
    (¬ Stoppable s h → (s.ctx h).state ≠ .stopping → c = { s.ctx h with mark := false })
  let abandoned (s : State) (stops : Hatch → Prop) (t : State) : Prop := ∀ id r, s.slot id = some r →
    (stops (cleatHatch id) → r.wanted ≠ .no → t.slot id = some { r with wanted := .no, lost := true }) ∧
    (¬ stops (cleatHatch id) ∨ r.wanted = .no → t.slot id = some r)
  (∀ (s : State) (f : RxFrame) (h : Hatch), Offers 5 s f → f.byte 2 = h.val + 1 → s.imageValid = true →
    (roleOf f.station = .bridge ∨ roleOf f.station = .cargo ∨ roleOf f.station = .loader ∨ roleOf f.station = .service ∨
      f.station = localStation h) →
    let data (st : HatchState) : List Byte := [byteOf (h.val + 1), byteOf st.code, 0]
    (jogOn s h = false →
      (((s.ctx h).state = .opening ∨ (s.ctx h).state = .closing) → OnlyEntryOf s h →
        ∃ t, exec .halt s = .next t ∧ halted s h (t.ctx h) ∧
          OtherHatchesKept s t h ∧ SameElsewhere (popped s) t ∧ NoEntry t ∧
          (∀ c, (t.channel h c).sequencerTarget.command = 0) ∧
          t.link.tx = s.link.tx ++ [answerFrame f .ok (data (if channelsAtRest s h then .held else .stopping))]) ∧
      (Reclamping s h → OnlyEntryOf s h → WantedHydraulic s →
        ∃ t, exec .halt s = .next t ∧ halted s h (t.ctx h) ∧ (∀ g, g ≠ h → t.ctx g = s.ctx g) ∧
          SameElsewhere (popped s) t ∧ NoEntry t ∧ (∀ c, (t.channel h c).sequencerTarget.command = 0) ∧
          abandoned s (fun g => g = h) t ∧ t.link.tx = s.link.tx ++ [answerFrame f .ok (data .closed)]) ∧
      ((s.ctx h).state = .stopping → (s.ctx h).step = none → ∃ c, halted s h c ∧
        exec .halt s = .next ((reply (popped s) f .already (data .stopping)).setCtx h c)) ∧
      (¬ Stoppable s h → (s.ctx h).state ≠ .stopping →
        ((s.ctx h).mark = false ∨ ((s.ctx h).step = none ∧ (reclampSet s h).isEmpty = true)) →
        exec .halt s = .next ((reply (popped s) f .already (data (s.ctx h).state)).setCtx h { s.ctx h with mark := false }))) ∧
    ∀ j, s.drive.jog = some j → j.hatch = h → ((s.ctx h).state = .held ∨ (s.ctx h).state = .fault) → (s.ctx h).step = none →
      (s.ctx h).mark = false →
      (j.phase = .active → (s.channel h j.channel).jogMaster = true → 0 < (s.channel h j.channel).applied →
        exec .halt s = .next (((reply (popped s) f .ok (data (s.ctx h).state)).setJog
          (some { j with phase := .ending })).setChannel h j.channel
            { s.channel h j.channel with target := ⟨j.dir, 0⟩ })) ∧
      (j.phase = .queued → (s.channel h j.channel).jogMaster = false → OnlyEntryOf s h → (reclampSet s h).isEmpty = true →
        ∃ t, exec .halt s = .next t ∧ t.drive = { s.drive with jog := none } ∧ NoEntry t ∧ t.hatches = s.hatches ∧
          SameElsewhere (popped s) t ∧ t.link.tx = s.link.tx ++ [answerFrame f .ok (data (s.ctx h).state)])) ∧
  ∀ (s : State) (f : RxFrame), Offers 5 s f → f.byte 2 = 0 → s.imageValid = true →
    (roleOf f.station = .bridge ∨ roleOf f.station = .cargo ∨ roleOf f.station = .loader ∨ roleOf f.station = .service) →
    s.drive.jog = none → AllStoppable s → WantedHydraulic s →
    (∀ h, (s.ctx h).mark = true → Reclamping s h ∨ (reclampSet s h).isEmpty = true) →
    ∃ t, exec .halt s = .next t ∧ (∀ h, halted s h (t.ctx h)) ∧ SameElsewhere (popped s) t ∧ NoEntry t ∧
      abandoned s (fun g => Reclamping s g) t ∧
      t.link.tx = s.link.tx ++ [answerFrame f .ok [0, byteOf ((List.finRange 9).filter fun h =>
        decide ((s.ctx h).state = .opening) || decide ((s.ctx h).state = .closing) ||
          (decide ((s.ctx h).state = .closed) && decide ((s.ctx h).step.map (·.name) = some .reclamp))).length]]

/-- ACK_FAULT (R77, R119, R50): with usable sensing and no mismatch the hatch is derived from its panels (CLOSED, OPEN, or HELD with
cause ACK), its fault causes empty, its coil faults and its cut flag clear; otherwise nothing changes. A panel at or beyond stow length
plus 100 mm derives HELD (R69), also where R50 alone would give OPEN (assumption log 35). The hatch carries no mark and no wanted cleat
here. -/
def Obligations.AcknowledgedFaultDerives : Prop :=
  ∀ (s : State) (f : RxFrame) (h : Hatch), Offers 6 s f → f.byte 2 = h.val + 1 → s.imageValid = true →
    (roleOf f.station = .bridge ∨ roleOf f.station = .cargo ∨ roleOf f.station = .service ∨ f.station = localStation h) →
    ((s.ctx h).state ≠ .fault →
      exec .ackFault s = .next (reply (popped s) f .already [byteOf (h.val + 1), byteOf (s.ctx h).state.code, 0])) ∧
    ((s.ctx h).state = .fault → sensingUsable s h = false ∨ (∃ c, (s.channel h c).mismatch ≠ .none) →
      exec .ackFault s = .next (reply (popped s) f .notReady [byteOf (h.val + 1), byteOf (s.ctx h).state.code, 0])) ∧
    ((s.ctx h).state = .fault → sensingUsable s h = true → (∀ c, (s.channel h c).mismatch = .none) → NothingWaits s h →
      let st : HatchState :=
        if bothClosed s h && bothJacks s h .lowered then .closed
        else if bothStowed s h && bothJacks s h .lowered && !anyBeyondStow s h then .open else .held
      ∃ t, exec .ackFault s = .next t ∧
        t.ctx h = { s.ctx h with
          state := st
          held := if st = .held then some .ack else none
          next := none
          faults := 0
          lastFault := none } ∧
        (∀ c, t.channel h c = { s.channel h c with coilFault := false, mismatchTimer := 0 }) ∧
        t.drive.cut = s.drive.cut.set h false ∧ OtherHatchesKept s t h ∧ t.arbiter = s.arbiter ∧ t.supply = s.supply ∧
        t.link.tx = s.link.tx ++ [answerFrame f .ok [byteOf (h.val + 1), byteOf st.code, 0]])

/-- STEP_TIMEOUT and STALL (R56, R68, R72): the hatch of an ACTIVE step takes FAULT with its cause, the step is withdrawn with its
entry and its targets, and the mark is kept. A STEP_TIMEOUT that finds the step with no elapsed time changes nothing, as the timer of
the step before it is gone: how the model takes that pair of one instant is in assumption log 2. A STALL needs an ACTIVE ROLL step, an
applied command of 300 and a speed below the stall speed; that it changes nothing without these is the model's choice (assumption
log 5). -/
def Obligations.StepFaults : Prop :=
  ∀ (s : State) (h : Hatch) (t : StepCtx), Running s → (s.ctx h).step = some t → t.phase = .active → t.name ≠ .reclamp →
    (s.ctx h).state ≠ .fault → OnlyEntryOf s h →
    let faulted (c : FaultCause) (u : State) : Prop :=
      u.ctx h = { s.ctx h with
        state := .fault
        held := none
        next := none
        step := none
        faults := (s.ctx h).faults ||| BitVec.ofNat 7 (2 ^ c.code)
        lastFault := some c } ∧
      OtherHatchesKept s u h ∧ SameElsewhere s u ∧ NoEntry u ∧ u.supply = s.supply ∧
      ∀ c, (u.channel h c).sequencerTarget.command = 0
    (0 < t.elapsed → ∃ u, exec (.stepTimeout h) s = .next u ∧ faulted .stepTimeout u) ∧
    (t.elapsed = 0 → exec (.stepTimeout h) s = .next s) ∧
    ∀ p : Panel, t.name.isRoll = true → ∀ v : Int, (s.panel h p).speed = some v →
      (300 ≤ (s.channel h (rollChannel p)).applied → (v.natAbs : Int) < s.params.stallSpeed →
        ∃ u, exec (.stall h p) s = .next u ∧ faulted .stall u) ∧
      ((s.channel h (rollChannel p)).applied < 300 ∨ s.params.stallSpeed ≤ (v.natAbs : Int) →
        exec (.stall h p) s = .next s)

/-- STEP_TIMEOUT of a RECLAMP (R157, R15): the hatch stays CLOSED, and each cleat the step had taken is no longer wanted and is
marked LOST where it is not ENGAGED. With no elapsed time nothing changes (R56, assumption log 2). No cleat of the hatch waits here,
so no other RECLAMP follows. -/
def Obligations.ReclampTimeoutEndsReclamp : Prop :=
  ∀ (s : State) (h : Hatch) (t : StepCtx), Running s → (s.ctx h).step = some t → t.phase = .active → t.name = .reclamp →
    (s.ctx h).state = .closed → OnlyEntryOf s h →
    (∀ id r, cleatHatch id = h → s.slot id = some r → r.wanted ≠ .no →
      r.wanted = .taken ∧ r.service = .inService ∧ r.manual = false) →
    (t.elapsed = 0 → exec (.stepTimeout h) s = .next s) ∧
    (0 < t.elapsed → ∃ u, exec (.stepTimeout h) s = .next u ∧ u.ctx h = { s.ctx h with step := none } ∧ NoEntry u ∧
      (∀ g, g ≠ h → u.ctx g = s.ctx g) ∧ SameElsewhere s u ∧
      (∀ c, (u.channel h c).sequencerTarget.command = 0) ∧
      ∀ id r, s.slot id = some r →
        u.slot id = some (if cleatHatch id = h ∧ r.wanted = .taken then
          { r with wanted := .no, lost := r.lost || r.verdict != .engaged } else r))

/-! ### Squall closure -/

/-- SQUALL (R146 to R149): it marks each hatch that carries no mark and is not CLOSED and secured; a STOPPING hatch takes CLOSING as
its next state, and an UNKNOWN or FAULT hatch waits. The answer carries the number marked. Where one hatch alone is marked: an
OPENING one is withdrawn and goes STOPPING with next state CLOSING; the step of a CLOSING one takes class URGENT, with its entry
(R99); an OPEN, HELD or CLOSED one whose conditions hold becomes CLOSING with its start step of class URGENT, and stays as it is
but for the mark where they do not. -/
def Obligations.SquallMarksHatches : Prop :=
  ∀ (s : State) (f : RxFrame), Offers 11 s f → s.imageValid = true →
    (¬ (roleOf f.station = .bridge ∨ roleOf f.station = .cargo) →
      exec .squall s = .next (reply (popped s) f .refusedAuthority)) ∧
    (roleOf f.station = .bridge ∨ roleOf f.station = .cargo →
      ((∀ h, (s.ctx h).mark = true ∨ (s.ctx h).state = .unknown ∨ (s.ctx h).state = .fault ∨ (s.ctx h).state = .stopping ∨
        ((s.ctx h).state = .closed ∧ (s.table.verdict.get h).isSecured = true)) →
        let marks (h : Hatch) : Bool :=
          !(s.ctx h).mark && !(decide ((s.ctx h).state = .closed) && (s.table.verdict.get h).isSecured)
        ∃ t, exec .squall s = .next t ∧
          (∀ h, t.ctx h = if marks h then { s.ctx h with
              mark := true
              next := if (s.ctx h).state = .stopping then some .closing else (s.ctx h).next } else s.ctx h) ∧
          { t with hatches := s.hatches } =
            reply (popped s) f .ok [byteOf ((List.finRange 9).filter marks).length]) ∧
      ∀ h : Hatch, (s.ctx h).mark = false → s.drive.jog = none → OnlyEntryOf s h →
        (∀ g, g ≠ h → (s.ctx g).mark = true ∨ ((s.ctx g).state = .closed ∧ (s.table.verdict.get g).isSecured = true)) →
        let marked : HatchCtx := { s.ctx h with mark := true }
        let becomes (c : HatchCtx) (pending : List Entry) (granted : List Granted) : Prop :=
          ∃ t, exec .squall s = .next t ∧ t.ctx h = c ∧ OtherHatchesKept s t h ∧ SameElsewhere (popped s) t ∧
            t.arbiter.pending = pending ∧ t.arbiter.granted = granted ∧
            t.link.tx = s.link.tx ++ [answerFrame f .ok [1]]
        ((s.ctx h).state = .opening → (∃ c, (s.channel h c).applied ≠ 0) →
          becomes { marked with state := .stopping, held := none, next := some .closing, step := none } [] []) ∧
        (∀ st, (s.ctx h).state = .closing → (s.ctx h).step = some st →
          (∀ g, s.arbiter.pending = [] → s.arbiter.granted = [g] → g.entry.cls = st.cls → WithinFlow s →
            withShares s.supply.available [g] = [g] →
            becomes { marked with step := some { st with cls := .urgent } } []
              [{ g with entry := { g.entry with cls := .urgent } }]) ∧
          ∀ e, s.arbiter.pending = [e] → s.arbiter.granted = [] → e.cls = st.cls → s.supply.available < e.m →
            becomes { marked with step := some { st with cls := .urgent } } [{ e with cls := .urgent }] []) ∧
        (NoEntry s → (s.ctx h).step = none →
          ((s.ctx h).state = .open ∨ (s.ctx h).state = .held ∨
            ((s.ctx h).state = .closed ∧ (s.table.verdict.get h).isSecured = false)) →
          let start := closingStart s h
          let gated : Bool := start.isRoll && heelGates s
          (MayStart s h → s.supply.available < s.params.stepM start → s.arbiter.counter < 65535 →
            becomes
              { marked with
                state := .closing
                held := none
                next := none
                step := some (joined start .urgent (if gated then .gated else .queued)) }
              (if gated then []
                else [⟨h, .step start, .urgent, s.params.stepN start, s.params.stepM start, s.arbiter.counter + 1, false⟩])
              []) ∧
          (¬ MayStart s h → exec .squall s = .next ((reply (popped s) f .ok [1]).setCtx h marked))))

/-- CANCEL_SQUALL (R151, R152): every mark clears and the answer carries their number; with no mark it is answered ALREADY. No
marked hatch has a step or a wanted cleat here, so nothing else changes. -/
def Obligations.CancelClearsMarks : Prop :=
  ∀ (s : State) (f : RxFrame), Offers 12 s f → s.imageValid = true →
    (roleOf f.station = .bridge ∨ roleOf f.station = .cargo) →
    ((∀ h, (s.ctx h).mark = false) → exec .cancelSquall s = .next (reply (popped s) f .already)) ∧
    ((∃ h, (s.ctx h).mark = true) →
      (∀ h, (s.ctx h).mark = true → (s.ctx h).step = none ∧ (reclampSet s h).isEmpty = true) →
      ∃ t, exec .cancelSquall s = .next t ∧ t.squallActive = false ∧
        (∀ h, t.ctx h = { s.ctx h with mark := false }) ∧
        { t with hatches := s.hatches } =
          reply (popped s) f .ok [byteOf ((List.finRange 9).filter fun h => (s.ctx h).mark).length])

/-! ### Valve Drive -/

/-- DRIVE_UPDATE of a channel (R112 to R114), with its mismatch timer short of a coil fault: command 0 lowers the applied command with
the working direction kept; the working direction moves it toward the command; the other direction lowers it and, at 0, takes
working direction NONE and starts the deadtime; from NONE a direction is taken only at deadtime 0. A held channel stands at 0 with
working direction NONE (R115). The duty is that of the applied command with the offset of this moment (R110). No other channel
moves. An update that brings the channel to 0 ends the STOPPING of a hatch whose last channel it is (R60), releases the ENDING jog
of that channel (R123), and completes a ROLL step whose panels have arrived, with its step boundary (R57, R58). -/
def Obligations.DriveUpdateMovesChannel : Prop :=
  ∀ (s : State) (h : Hatch) (c : Channel), Running s →
    let r := s.channel h c
    let p := s.params
    let roll : Bool := c == .rollPort || c == .rollStbd
    let down := if roll then r.applied - p.rampDown else 0
    let comesToRest : Prop :=
      channelHeld s h c = false ∧ r.mismatchTimer < 180 ∧ r.target.command = 0 ∧ 0 < r.applied ∧ down = 0
    let queued (step : StepName) : Entry :=
      ⟨h, .step step, classFor (s.ctx h) step, p.stepN step, p.stepM step, s.arbiter.counter + 1, false⟩
    ∃ t, exec (.driveUpdate h c) s = .next t ∧
      (r.mismatchTimer < 180 → ∀ g d, (g, d) ≠ (h, c) →
        (t.channel g d).applied = (s.channel g d).applied ∧ (t.channel g d).working = (s.channel g d).working ∧
          (t.channel g d).duty = (s.channel g d).duty) ∧
      (channelHeld s h c = true →
        (t.channel h c).applied = 0 ∧ (t.channel h c).working = none ∧ (t.channel h c).duty = 0) ∧
      (r.mismatchTimer < 180 → (t.channel h c).duty =
        if (t.channel h c).applied = 0 then 0
        else if roll then p.offset + (t.channel h c).applied * (1000 - p.offset) / 1000
        else (t.channel h c).applied) ∧
      (channelHeld s h c = false → r.mismatchTimer < 180 →
        let moved (applied : Nat) (working : Option Dir) (deadtime : Nat) : Prop :=
          (t.channel h c).applied = applied ∧ (t.channel h c).working = working ∧ (t.channel h c).deadtime = deadtime
        (r.target.command = 0 → moved down r.working r.deadtime) ∧
        (0 < r.target.command →
          (r.working = some r.target.dir → r.applied < r.target.command →
            moved (if roll then min (r.applied + p.rampUp) r.target.command else 1000) r.working r.deadtime) ∧
          (r.working = some r.target.dir → r.target.command ≤ r.applied →
            moved (if roll then max (r.applied - p.rampDown) r.target.command else 1000) r.working r.deadtime) ∧
          (r.working = some r.target.dir.other → 0 < down → moved down r.working r.deadtime) ∧
          (r.working = some r.target.dir.other → down = 0 → moved 0 none p.deadtime) ∧
          (r.working = none → r.deadtime = 0 →
            moved (if roll then min p.rampUp r.target.command else 1000) (some r.target.dir) 0) ∧
          (r.working = none → 0 < r.deadtime → moved 0 none r.deadtime))) ∧
      (comesToRest → s.drive.jog = none → (s.ctx h).state = .stopping → (s.ctx h).step = none →
        (∀ d, d ≠ c → (s.channel h d).applied = 0) →
        (∀ k, (s.ctx h).next = some (.held k) →
          t.ctx h = { s.ctx h with state := .held, held := some k, next := none }) ∧
        ((s.ctx h).next = some .closing →
          let start := closingStart s h
          let gated : Bool := start.isRoll && heelGates s
          (isBlocked s h (.step start) = true →
            t.ctx h = { s.ctx h with state := .held, held := some .hold, next := none }) ∧
          (isBlocked s h (.step start) = false → NoEntry s → s.supply.available < p.stepM start → s.arbiter.counter < 65535 →
            t.ctx h = { s.ctx h with
              state := .closing
              held := none
              next := none
              step := some (joined start (classFor (s.ctx h) start) (if gated then .gated else .queued)) } ∧
            t.arbiter.pending = (if gated then [] else [queued start]) ∧ t.arbiter.granted = []))) ∧
      (∀ j, s.drive.jog = some j → j.hatch = h → j.channel = c → j.phase = .ending → comesToRest →
        (s.ctx h).state ≠ .stopping → (s.ctx h).step = none → OnlyEntryOf s h → NothingWaits s h →
        t.drive.jog = none ∧ NoEntry t ∧ t.hatches = s.hatches ∧ (t.channel h c).jogMaster = false ∧
          (r.jogMaster = true → (t.channel h c).target = r.sequencerTarget)) ∧
      ∀ st, (s.ctx h).step = some st → st.phase = .active → st.name.isRoll = true → st.arrived = ⟨true, true⟩ → roll = true →
        comesToRest → (∀ q, rollChannel q ≠ c → (s.channel h (rollChannel q)).applied = 0) → s.drive.jog = none →
        (s.ctx h).state = (if st.name = .rollOut then .opening else .closing) → OnlyEntryOf s h →
        let after : StepName := if st.name = .rollOut then .park else .lower
        (isBlocked s h (.step after) = true →
          t.ctx h = { s.ctx h with state := .held, held := some .hold, next := none, step := none } ∧ NoEntry t) ∧
        (isBlocked s h (.step after) = false → s.supply.available < p.stepM after → s.arbiter.counter < 65535 →
          t.ctx h = { s.ctx h with step := some (joined after (classFor (s.ctx h) after) .queued) } ∧
          t.arbiter.pending = [queued after] ∧ t.arbiter.granted = [])

/-- The law of R114, over every step of the part: a channel takes a working direction only from NONE, with its deadtime run
out, and keeps it otherwise; so the two directions of a channel are never energised one after the other without a rest. -/
def Obligations.DirectionsNeverSwap : Prop :=
  ∀ s t : State, step s = .next t → ∀ (h : Hatch) (c : Channel) (d : Dir), (t.channel h c).working = some d →
    (s.channel h c).working = some d ∨ ((s.channel h c).working = none ∧ (s.channel h c).deadtime = 0)

/-- The coil check at its limit (R116 to R118). OPEN_COIL: an on/off channel driven without current for 200 ms is forced off and
flagged, and a moving hatch takes FAULT with cause VALVE. STUCK_ON: a channel at rest with current for 200 ms is flagged, its
hatch is cut (VSUP off, every channel at 0 with the deadtime started) and takes FAULT with cause VALVE. The Arbiter holds no
other hatch's entry and no jog is in progress here. Before the image is VALID the deadtime is the default (assumption log 6). -/
def Obligations.CoilFaultsForceOff : Prop :=
  ∀ (s : State) (h : Hatch) (c : Channel), Running s → OnlyEntryOf s h → ((s.ctx h).step = none → NoEntry s) →
    s.drive.jog = none → (s.ctx h).state ≠ .fault → (s.channel h c).mismatchTimer = 180 →
    (channelHeld s h c = false → rollPanel? c = none → (s.channel h c).mismatch = .onWithoutCurrent →
      0 < (s.channel h c).target.command → (s.channel h c).working = some (s.channel h c).target.dir →
      (s.channel h c).applied = 1000 → (s.channel h c).sensed = none → (s.ctx h).state.isMoving = true →
      ∃ t, exec (.driveUpdate h c) s = .next t ∧ (t.channel h c).coilFault = true ∧ (t.channel h c).applied = 0 ∧
        (t.channel h c).duty = 0 ∧ (t.channel h c).working = none ∧ (t.channel h c).deadtime = s.params.deadtime ∧
        (t.channel h c).mismatchTimer = 0 ∧ t.drive.cut = s.drive.cut ∧
        (t.ctx h).state = .fault ∧ (t.ctx h).lastFault = some .valve ∧ (t.ctx h).step = none ∧ NoEntry t ∧
        OtherHatchesKept s t h) ∧
    ((s.channel h c).mismatch = .currentWithoutOn → (s.channel h c).applied = 0 → (s.channel h c).working = none →
      (s.channel h c).target.command = 0 → (s.channel h c).sensed ≠ none → s.drive.cut.get h = false →
      ∃ t, exec (.driveUpdate h c) s = .next t ∧ (t.channel h c).coilFault = true ∧ t.drive.cut.get h = true ∧
        t.vsupOn h = false ∧
        (∀ d, (t.channel h d).applied = 0 ∧ (t.channel h d).duty = 0 ∧ (t.channel h d).working = none ∧
          (t.channel h d).deadtime = s.params.deadtime) ∧
        (t.ctx h).state = .fault ∧ (t.ctx h).lastFault = some .valve ∧ (t.ctx h).step = none ∧ NoEntry t ∧
        OtherHatchesKept s t h)

/-- DEADTIME_EXPIRY and COIL_FEEDBACK_CHANGE (R114, R109): the first takes the deadtime remaining to 0, and changes nothing where it
stands at the full value, just started again (assumption log 2; before the image is VALID the default, log 6); the second writes what
the coil reads, in reset too. Neither changes anything else. -/
def Obligations.ChannelLinesWriteRecord : Prop :=
  ∀ (s : State) (h : Hatch) (c : Channel),
    (s.inReset = false →
      ((s.channel h c).deadtime ≠ s.params.deadtime →
        exec (.deadtimeExpiry h c) s = .next (s.setChannel h c { s.channel h c with deadtime := 0 })) ∧
      ((s.channel h c).deadtime = s.params.deadtime → exec (.deadtimeExpiry h c) s = .next s)) ∧
    ∀ x, exec (.coilFeedbackChange h c x) s = .next (s.setChannel h c { s.channel h c with sensed := x })

/-- JOG answered ACCEPTED (R121, R122): with 40 L/min at hand and no other entry the jog is ACTIVE at once with its command
clamped to 300 and 500 ms on its timer, the master of its channel is JOG, and the target is the jog's, or command 0 at an end
stop. No applied command changes yet. -/
def Obligations.JogStarts : Prop :=
  ∀ (s : State) (f : RxFrame) (h : Hatch) (c : Channel) (d : Dir), Offers 15 s f → s.imageValid = true →
    f.byte 2 = h.val + 1 → channelOf (f.byte 3) = some c → dirOf (f.byte 4) = some d →
    roleOf f.station = .service → 0 < f.word 5 → f.word 5 ≤ 1000 → s.drive.jog = none →
    ((s.ctx h).state = .held ∨ (s.ctx h).state = .fault) → s.tripped h = false → s.vsupOn h = true →
    (s.channel h c).coilFault = false → (∀ p, rollPanel? c = some p → (s.panel h p).position ≠ none) →
    isBlocked s h (.jog c) = false → NoEntry s → 40 ≤ s.supply.available → s.arbiter.counter < 65535 →
    let j : Jog := ⟨h, c, d, min (f.word 5) 300, .active, 500⟩
    ∃ t, exec (.jog true) s = .next t ∧ t.drive.jog = some j ∧
      t.channel h c = { s.channel h c with jogMaster := true, target := ⟨d, if endStop s j then 0 else j.command⟩ } ∧
      (∀ g x, (g, x) ≠ (h, c) → t.channel g x = s.channel g x) ∧ t.hatches = s.hatches ∧ t.supply = s.supply ∧
      t.table = s.table ∧ t.arbiter.pending = [] ∧
      t.arbiter.granted = [⟨⟨h, .jog c, .normal, 40, 40, s.arbiter.counter + 1, false⟩, ⟨40, none⟩⟩] ∧
      SameElsewhere { popped s with keyService := true } t ∧
      t.link.tx = s.link.tx ++ [answerFrame f .accepted (bytes2 (min (f.word 5) 300))]

/-- JOG that is a renewal (R121, R123): direction, clamped command and timer are taken, an ACTIVE jog that holds its channel writes
its target again, and the answer OK carries the clamped command. Nothing else changes. -/
def Obligations.JogRenewalRewritesTarget : Prop :=
  ∀ (s : State) (f : RxFrame) (j : Jog) (d : Dir), Offers 15 s f → s.imageValid = true → s.drive.jog = some j →
    j.phase ≠ .ending → f.byte 2 = j.hatch.val + 1 → channelOf (f.byte 3) = some j.channel → dirOf (f.byte 4) = some d →
    roleOf f.station = .service → 0 < f.word 5 → f.word 5 ≤ 1000 →
    let renewed : Jog := { j with dir := d, command := min (f.word 5) 300, timer := 500 }
    let u : State := (reply { popped s with keyService := true } f .ok (bytes2 (min (f.word 5) 300))).setJog (some renewed)
    (j.phase ≠ .active → exec (.jogRenewal true) s = .next u) ∧
    (j.phase = .active → (s.channel j.hatch j.channel).jogMaster = true →
      exec (.jogRenewal true) s = .next (u.setChannel j.hatch j.channel
        { s.channel j.hatch j.channel with target := ⟨d, if endStop s renewed then 0 else renewed.command⟩ }))

/-- JOG_TIMER_EXPIRY and KEY_SERVICE_OPENS (R123, R124) each end the jog as its phase gives. QUEUED: the entry is withdrawn and the
record is absent. SHED: the entry is withdrawn and the jog is ENDING with target 0. ACTIVE: the jog is ENDING with target 0 and keeps
its entry. A SHED or ACTIVE jog whose channel is at rest already is over at once: its channel goes back to its Sequencer's target,
and its entry is withdrawn. ENDING: nothing but the key's level changes; without a jog likewise. That JOG_TIMER_EXPIRY changes nothing
where no jog's timer counts, with no jog or an ENDING one, is the model's choice: the command then stands for no event (assumption
log 5); nor does it where the timer stands at 500 ms, just set back by a renewal (log 2). No other hatch has an entry, and nothing of the jog's hatch waits, where an entry is withdrawn. -/
def Obligations.JogEnds : Prop :=
  ∀ s : State, Running s →
    (s.drive.jog = none → exec .jogTimerExpiry s = .next s ∧ exec .keyServiceOpens s = .next { s with keyService := false }) ∧
    ∀ j : Jog, s.drive.jog = some j →
      let r := s.channel j.hatch j.channel
      let ending (timer : Nat) (u : State) : State :=
        (u.setJog (some { j with phase := .ending, timer := timer })).setChannel j.hatch j.channel
          { r with target := ⟨j.dir, 0⟩ }
      let answers (c : Instr) (u : State) (drive : Drive) : Prop :=
        ∃ t, exec c s = .next t ∧ t.drive = drive ∧ NoEntry t ∧ t.hatches = s.hatches ∧ t.table = s.table ∧
          t.supply = s.supply ∧ t.link = s.link ∧ SameElsewhere u t
      let keyed : State := { s with keyService := false }
      let back : Drive :=
        ((if r.jogMaster then s.setChannel j.hatch j.channel { r with jogMaster := false, target := r.sequencerTarget }
          else s).setJog none).drive
      let ends : Prop := (j.timer < 500 → answers .jogTimerExpiry s back) ∧ answers .keyServiceOpens keyed back
      (500 ≤ j.timer → exec .jogTimerExpiry s = .next s) ∧
      (j.phase = .queued → OnlyEntryOf s j.hatch → NothingWaits s j.hatch → ends) ∧
      (j.phase = .shed → OnlyEntryOf s j.hatch →
        (0 < r.applied → r.jogMaster = true →
          (j.timer < 500 → answers .jogTimerExpiry s (ending 0 s).drive) ∧ answers .keyServiceOpens keyed (ending j.timer s).drive) ∧
        (r.applied = 0 → NothingWaits s j.hatch → ends)) ∧
      (j.phase = .active → r.jogMaster = true →
        (0 < r.applied →
          (j.timer < 500 → exec .jogTimerExpiry s = .next (ending 0 s)) ∧
          exec .keyServiceOpens s = .next (ending j.timer keyed)) ∧
        (r.applied = 0 → OnlyEntryOf s j.hatch → NothingWaits s j.hatch → ends)) ∧
      (j.phase = .ending → exec .jogTimerExpiry s = .next s ∧
        (0 < r.applied → exec .keyServiceOpens s = .next keyed))

/-! ### Stop lines -/

/-- Every channel of a tripped hatch stands at applied 0 after every step (R115, R126). -/
def Obligations.StepKeepsTrippedAtRest : Prop :=
  ∀ s t : State, TrippedAtRest s → step s = .next t → TrippedAtRest t

/-- LOOP_OPENS of a hatch loop (R125, R126, R78, R128): the line reads OPEN, the latch is set, the clearing timer returns to 0, and
every channel of the hatch is cut at once to applied 0, duty 0 and working direction NONE with the deadtime started. Alone in the
Arbiter and with no jog, a moving hatch is HELD with cause TRIP without its step, and a CLOSED one gives up its RECLAMP, whose cleats
wait again. With the latch set already only the level and the clearing timer change. That a loop which reads OPEN already changes
nothing is the model's choice (assumption log 5), and before the image is VALID the deadtime is the default (log 6). -/
def Obligations.HatchLoopTrips : Prop :=
  ∀ (s : State) (h : Hatch) (n : Fin 10), Running s → n.val = h.val + 1 →
    (s.stops.loopOpen.get h = true → exec (.loopOpens n) s = .next s) ∧
    (s.stops.loopOpen.get h = false → s.stops.latch.get h = true →
      exec (.loopOpens n) s = .next { s with stops := { s.stops with
        loopOpen := s.stops.loopOpen.set h true
        clearing := s.stops.clearing.set h 0 } }) ∧
    (s.stops.loopOpen.get h = false → s.stops.latch.get h = false →
      ∃ t, exec (.loopOpens n) s = .next t ∧
        t.stops = { s.stops with
          loopOpen := s.stops.loopOpen.set h true
          latch := s.stops.latch.set h true
          clearing := s.stops.clearing.set h 0 } ∧
        (∀ c, (t.channel h c).applied = 0 ∧ (t.channel h c).duty = 0 ∧ (t.channel h c).working = none ∧
          (t.channel h c).deadtime = s.params.deadtime) ∧
        (∀ g c, g ≠ h → (t.channel g c).applied = (s.channel g c).applied ∧ (t.channel g c).duty = (s.channel g c).duty ∧
          (t.channel g c).working = (s.channel g c).working) ∧
        t.holds = s.holds ∧ t.junctions = s.junctions ∧ t.store = s.store ∧ t.retention = s.retention ∧
        (OnlyEntryOf s h → s.drive.jog = none →
          (∀ g, g ≠ h → t.ctx g = s.ctx g) ∧
          ((s.ctx h).state.isMoving = true → t.ctx h = { s.ctx h with
            state := .held
            held := some .trip
            next := none
            step := if (s.ctx h).state = .stopping then (s.ctx h).step else none }) ∧
          (Reclamping s h → t.ctx h = { s.ctx h with step := none } ∧ NoEntry t ∧
            ∀ id r, s.slot id = some r → t.slot id = some
              (if cleatHatch id = h ∧ r.service = .inService ∧ r.manual = false ∧ r.wanted = .taken then
                { r with wanted := .waiting } else r))))

/-- LOOP_OPENS of the ESTOP loop (R125, R126, R89, R78): the ESTOP latch is set, every hatch is tripped with its channels cut, and no
pump set is left RUNNING or STARTING: each goes STOPPING, or to rest where its run feedback is absent. Where no jog is in progress and
every step and entry belongs to a motion that a trip withdraws, each moving hatch is HELD with cause TRIP, each RECLAMP is withdrawn,
and every other hatch stays as it is. With the latch set already only the level changes. Before the image is VALID the deadtime is the
default (assumption log 6). -/
def Obligations.EstopTripsEverything : Prop :=
  ∀ s : State, Running s → s.stops.estopOpen = false →
    (s.stops.estopLatch = true → exec (.loopOpens 0) s = .next { s with stops := { s.stops with estopOpen := true } }) ∧
    (s.stops.estopLatch = false →
      ∃ t, exec (.loopOpens 0) s = .next t ∧ t.stops = { s.stops with estopOpen := true, estopLatch := true } ∧
        (∀ h, t.tripped h = true) ∧
        (∀ h c, (t.channel h c).applied = 0 ∧ (t.channel h c).duty = 0 ∧ (t.channel h c).working = none ∧
          (t.channel h c).deadtime = s.params.deadtime) ∧
        t.alarm = true ∧
        (∀ k, ((s.pump k).state = .running ∨ (s.pump k).state = .starting →
            (t.pump k).state = if (s.pump k).feedback then .stopping
              else if (s.pump k).rated = 0 then .disabled else .off) ∧
          ((s.pump k).state ≠ .running → (s.pump k).state ≠ .starting → (t.pump k).state = (s.pump k).state)) ∧
        (s.drive.jog = none → AllStoppable s → ∀ h,
          ((s.ctx h).state.isMoving = true → t.ctx h = { s.ctx h with
            state := .held
            held := some .trip
            next := none
            step := none }) ∧
          (Reclamping s h → t.ctx h = { s.ctx h with step := none }) ∧
          ((s.ctx h).state.isMoving = false → ¬ Reclamping s h → t.ctx h = s.ctx h)))

/-- LOOP_CLOSES and CLEARING_TIMER_EXPIRY (R128, R129): the closing writes the line's level alone, latch and all else kept; the
expiry clears the latch of an AUTO loop that stands CLOSED. That it changes nothing for a MANUAL loop, an open one, or a latch that
is not set is the model's choice (assumption log 5), and so it is for a timer at 0, which has not counted (log 2). The hatch has no mark and no wanted cleat here. -/
def Obligations.ClosedLoopClears : Prop :=
  ∀ s : State, Running s →
    exec (.loopCloses 0) s = .next { s with stops := { s.stops with estopOpen := false } } ∧
    ∀ (h : Hatch) (n : Fin 10), n.val = h.val + 1 →
      exec (.loopCloses n) s = .next { s with stops := { s.stops with loopOpen := s.stops.loopOpen.set h false } } ∧
      (s.params.clearsAuto h = true → s.stops.latch.get h = true → s.stops.loopOpen.get h = false → 0 < s.stops.clearing.get h →
        NothingWaits s h → exec (.clearingTimerExpiry h) s = .next { s with stops := { s.stops with
          latch := s.stops.latch.set h false
          clearing := s.stops.clearing.set h 0 } }) ∧
      (s.params.clearsAuto h = false ∨ s.stops.latch.get h = false ∨ s.stops.loopOpen.get h = true ∨
          s.stops.clearing.get h = 0 →
        exec (.clearingTimerExpiry h) s = .next s)

/-- ACK_TRIP (R127, R129), from BRIDGE, CARGO or SERVICE, and for its own hatch from a LOCAL station: a latch whose loop reads CLOSED
is cleared and the answer carries it cleared; with the loop OPEN it is NOT_READY and the latch stands; with no latch set ALREADY;
from any other station REFUSED_AUTHORITY. That the hatch's clearing timer stands at 0 after is read from the spec by inference
(assumption log 20). Nothing of the hatches cleared waits here. -/
def Obligations.AckTripClearsLatch : Prop :=
  ∀ (s : State) (f : RxFrame), Offers 13 s f → s.imageValid = true →
    let may : Prop := roleOf f.station = .bridge ∨ roleOf f.station = .cargo ∨ roleOf f.station = .service
    let latched (b : Bool) : Byte := if b then 1 else 0
    (f.byte 2 = 0 →
      (¬ may → exec .ackTrip s = .next (reply (popped s) f .refusedAuthority [0, latched s.stops.estopLatch])) ∧
      (may →
        (s.stops.estopLatch = false → exec .ackTrip s = .next (reply (popped s) f .already [0, 0])) ∧
        (s.stops.estopLatch = true → s.stops.estopOpen = true →
          exec .ackTrip s = .next (reply (popped s) f .notReady [0, 1])) ∧
        (s.stops.estopLatch = true → s.stops.estopOpen = false → (∀ h, NothingWaits s h) → exec .ackTrip s = .next
          (reply { popped s with stops := { s.stops with estopLatch := false } } f .ok [0, 0])))) ∧
    ∀ h : Hatch, f.byte 2 = h.val + 1 →
      let n := byteOf (h.val + 1)
      let e := latched s.stops.estopLatch
      (¬ (may ∨ f.station = localStation h) →
        exec .ackTrip s = .next (reply (popped s) f .refusedAuthority [n, latched (s.stops.latch.get h), e])) ∧
      (may ∨ f.station = localStation h →
        (s.stops.latch.get h = false → exec .ackTrip s = .next (reply (popped s) f .already [n, 0, e])) ∧
        (s.stops.latch.get h = true → s.stops.loopOpen.get h = true →
          exec .ackTrip s = .next (reply (popped s) f .notReady [n, 1, e])) ∧
        (s.stops.latch.get h = true → s.stops.loopOpen.get h = false → NothingWaits s h → exec .ackTrip s = .next
          (reply { popped s with stops := { s.stops with
            latch := s.stops.latch.set h false
            clearing := s.stops.clearing.set h 0 } } f .ok [n, 0, e])))

/-! ### Hydraulic supply and flow allocation -/

/-- RUN_FEEDBACK_CHANGE, FAIL_TO_START, FAIL_TO_STOP and RUN_AGE_EXPIRY (R82 to R84, R87, R91): a STARTING set with feedback takes
RUNNING, and is sent its stop request at once where the idle time is reached (assumption log 22); an OFF set with feedback, a RUNNING
set without it, a STARTING set at 15.0 s and a STOPPING set at 10.0 s take TRIPPED with their cause; a STOPPING set without feedback
rests; in the other states the level alone is recorded. That a timer which expired stands at its limit is read from the spec by
inference (log 20). The Arbiter holds no entry here, so no other set changes, and A is that of R95. -/
def Obligations.PumpFeedbackAndTimers : Prop :=
  ∀ (s : State) (k : PumpId), Running s → NoEntry s →
    let p := s.pump k
    let becomes (c : Instr) (q : Pump) : Prop :=
      ∃ t, exec c s = .next t ∧ t.pump k = q ∧ OtherPumpsKept s t k ∧ OnlyFlowChanges s t ∧ NoEntry t ∧
        t.supply.available = availableNow t
    (p.feedback = false →
      (p.state = .starting →
        (s.arbiter.idleTimer < s.params.idleTime →
          becomes (.runFeedbackChange k true) { p with feedback := true, state := .running, age := 0 }) ∧
        (s.params.idleTime ≤ s.arbiter.idleTimer →
          becomes (.runFeedbackChange k true) { p with feedback := true, state := .stopping, age := 0, timer := 0 }) ∧
        becomes (.failToStart k) { p with timer := 150, state := .tripped, cause := some .failToStart }) ∧
      (p.state = .off →
        becomes (.runFeedbackChange k true) { p with feedback := true, state := .tripped, cause := some .failToStop }) ∧
      (p.state ≠ .starting → p.state ≠ .off →
        exec (.runFeedbackChange k true) s = .next (s.setPump k { p with feedback := true }))) ∧
    (p.feedback = true →
      (p.state = .running →
        becomes (.runFeedbackChange k false) { p with feedback := false, state := .tripped, cause := some .runLost }) ∧
      (p.state = .stopping →
        becomes (.runFeedbackChange k false)
          { p with feedback := false, state := if p.rated = 0 then .disabled else .off } ∧
        becomes (.failToStop k) { p with timer := 100, state := .tripped, cause := some .failToStop }) ∧
      (p.state ≠ .running → p.state ≠ .stopping →
        exec (.runFeedbackChange k false) s = .next (s.setPump k { p with feedback := false }))) ∧
    (p.state = .running → exec (.runAgeExpiry k) s = .next (s.setPump k { p with age := 50 }))

/-- LOW_TIMER_EXPIRY and RECOVERY_TIMER_EXPIRY (R91, R95): the low timer at 3.0 s sets both flags, takes A to 0 and asserts ALARM;
the recovery timer at 3.0 s clears the live flag alone and A is computed again. That either changes nothing without the condition
its timer counts for is the model's choice (assumption log 5). -/
def Obligations.PressureTimersSetFlags : Prop :=
  ∀ s : State, Running s →
    (lowCounts s = true → ∃ t, exec .lowTimerExpiry s = .next t ∧ t.supply.lowPressure = true ∧
      t.supply.lowPressureSeen = true ∧ t.supply.available = 0 ∧ t.supply.overtemp = s.supply.overtemp ∧
      t.supply.overtempSeen = s.supply.overtempSeen ∧ t.alarm = true ∧ t.holds = s.holds ∧ t.store = s.store) ∧
    (lowCounts s = false → exec .lowTimerExpiry s = .next s) ∧
    (recoveryCounts s = true → ∃ t, exec .recoveryTimerExpiry s = .next t ∧ t.supply.lowPressure = false ∧
      t.supply.recoveryTimer = 0 ∧
      t.supply.available = availableNow { s with supply := { s.supply with lowPressure := false } } ∧
      t.supply.lowPressureSeen = s.supply.lowPressureSeen ∧ t.supply.overtemp = s.supply.overtemp ∧
      t.supply.overtempSeen = s.supply.overtempSeen ∧ t.holds = s.holds ∧ t.store = s.store) ∧
    (recoveryCounts s = false → exec .recoveryTimerExpiry s = .next s)

/-- IDLE_TIMER_EXPIRY and REDUCTION_TIMER_EXPIRY (R87, R88, R83): the first sends every RUNNING set a stop request, no other set
changes and the timer stays at the idle time; the second sends one to the highest RUNNING set, whose flow the entries do not
need, its timer returns to 0, and with no entry pending no other set changes. A set stopped with its feedback present takes STOPPING
with its timer at 0. That the idle expiry changes nothing with an entry, and the reduction expiry nothing with no set to stop, is the
model's choice (assumption log 5), and so it is for a timer at 0, which has not counted (log 2); before the image is VALID the idle
time is the default (log 6). -/
def Obligations.IdleAndReductionStopPumps : Prop :=
  ∀ s : State, Running s →
    (NoEntry s → 0 < s.arbiter.idleTimer → s.arbiter.idleTimer < s.params.idleTime →
      ∃ t, exec .idleTimerExpiry s = .next t ∧ t.arbiter.idleTimer = s.params.idleTime ∧ NoEntry t ∧ OnlyFlowChanges s t ∧
        ∀ k, t.pump k = if (s.pump k).state = .running then
          { s.pump k with
            state := if (s.pump k).feedback then .stopping else if (s.pump k).rated = 0 then .disabled else .off
            timer := 0 }
          else s.pump k) ∧
    (¬ NoEntry s ∨ s.arbiter.idleTimer = 0 → exec .idleTimerExpiry s = .next s) ∧
    (∀ k, reductionFor s = some k → s.arbiter.reductionSet = some k → 0 < s.arbiter.reductionTimer →
      (s.pump k).feedback = true → ∃ t, exec .reductionTimerExpiry s = .next t ∧ (t.pump k).state = .stopping ∧ t.startLine k = false ∧
        t.arbiter.reductionTimer = 0 ∧ t.supply.overtemp = s.supply.overtemp ∧ t.holds = s.holds ∧ t.store = s.store ∧
        (FlowLawful s → s.arbiter.pending = [] →
          t.pump k = { s.pump k with state := .stopping, timer := 0 } ∧ OtherPumpsKept s t k)) ∧
    (reductionFor s = none ∨ s.arbiter.reductionTimer = 0 → exec .reductionTimerExpiry s = .next s)

/-- ACK_PUMP (R85): a TRIPPED set without feedback rests OFF, or DISABLED at a rating of 0, without its cause, and the answer carries
its new state; with feedback it is NOT_READY and any other set ALREADY, with the trip cause. ACK_PUMP of 0 clears the two
sticky flags, is NOT_READY while a live flag is set, and ALREADY with neither sticky flag set. The Arbiter holds no entry. -/
def Obligations.AckPumpClears : Prop :=
  ∀ (s : State) (f : RxFrame), Offers 14 s f → s.imageValid = true →
    (roleOf f.station = .bridge ∨ roleOf f.station = .cargo ∨ roleOf f.station = .service) →
    (∀ k : PumpId, f.byte 2 = k.val + 1 →
      let p := s.pump k
      let n := byteOf (k.val + 1)
      (p.state ≠ .tripped →
        exec .ackPump s = .next (reply (popped s) f .already [n, byteOf p.state.code, byteOf (tripCauseCode p.cause)])) ∧
      (p.state = .tripped → p.feedback = true →
        exec .ackPump s = .next (reply (popped s) f .notReady [n, 4, byteOf (tripCauseCode p.cause)])) ∧
      (p.state = .tripped → p.feedback = false → NoEntry s →
        let q : Pump := { p with state := if p.rated = 0 then .disabled else .off, cause := none }
        ∃ t, exec .ackPump s = .next t ∧ t.pump k = q ∧ OtherPumpsKept s t k ∧ NoEntry t ∧
          OnlyFlowChanges (reply (popped s) f .ok [n, byteOf q.state.code, 0]) t)) ∧
    (f.byte 2 = 0 →
      (s.supply.lowPressure = true ∨ s.supply.overtemp = true →
        exec .ackPumpFlags s = .next (reply (popped s) f .notReady [0, byteOf (supplyFlags s)])) ∧
      (s.supply.lowPressure = false → s.supply.overtemp = false →
        (s.supply.lowPressureSeen = false → s.supply.overtempSeen = false →
          exec .ackPumpFlags s = .next (reply (popped s) f .already [0, 0])) ∧
        (s.supply.lowPressureSeen = true ∨ s.supply.overtempSeen = true →
          exec .ackPumpFlags s = .next (reply { popped s with
            supply := { s.supply with lowPressureSeen := false, overtempSeen := false } } f .ok [0, 0]))))

/-- The laws of the Arbiter and of the pump sets hold after every step from a state in which they hold: each hatch has at most one
entry across the pending list and the granted set (R96), the pending list stands in grant order (R98), no entry and no step of
the copy has an M above its N (R178), and at most one pump set is STARTING (R84). -/
def Obligations.StepKeepsFlowLaws : Prop :=
  (∀ s t : State, FlowLawful s → step s = .next t → FlowLawful t) ∧
  ∀ s t : State, OneStarting s → step s = .next t → OneStarting t

/-- Every step keeps the granted flow within the available flow (R102, R105): where the laws of the Arbiter hold, the sum of the
granted M and the sum of the shares lie within A, and each share lies from its entry's M to its N, after the step as before it. An
allocation (R100 to R105) sets this up whatever stood before: it loses and adds no entry and changes none but for its shed mark, and
the head of what still waits does not fit, unless the same allocation has shed it. -/
def Obligations.AllocationStaysWithinFlow : Prop :=
  (∀ s t : State, FlowLawful s → WithinFlow s → step s = .next t → WithinFlow t) ∧
  ∀ s : State, FlowLawful s →
    let a := (allocate s).arbiter
    let entries (x : Arbiter) : List Entry := (x.pending ++ x.granted.map (·.entry)).map fun e => { e with shed := false }
    WithinFlow (allocate s) ∧ (entries a).Perm (entries s.arbiter) ∧
    ∀ e, a.pending.head? = some e →
      s.supply.available < (a.granted.map (·.entry.m)).sum + e.m ∨
        (e.shed = true ∧ ∃ g ∈ s.arbiter.granted, g.entry.hatch = e.hatch)

/-! ### Configuration Store and retention memory -/

/-- SET_PARAM taken for writing (R181, R182, R165): the copy takes the value, the write records item, index and value, and the
station has its request outstanding. Without the SERVICE station and a closed KEY_SERVICE it is REFUSED_AUTHORITY, and a value out of
its range BAD_VALUE. While the image is VALID the owner of a changed value acts: the verdict of the hatch is decided afresh (stow
length, allowance), of every hatch (stop band, R48, R18); the clearing timer stands at 0 (R128); the record is built from the
layout without its kept fields and waits for its retention write (R23); the set takes its rating and its state (R90); A is computed
again (reserve, temperatures, R95); the idle timer counts on, expires, or takes the new idle time (R87); and the pressure timers
follow the limit (R91). Where no owner acts on the value at once nothing else changes. -/
def Obligations.ParamTakenForWriting : Prop :=
  ∀ (s : State) (f : RxFrame) (key : Bool), Offers 16 s f → itemExists (f.byte 2) (f.word 3) = true →
    let item := f.byte 2
    let v := ofSigned2 (f.word 5)
    let copy := s.store.copy.withItem (f.byte 2) (f.word 3) v
    let kept : State := { popped s with keyService := key }
    let free : Prop := (s.store.unsaved = none ∨ s.store.unsaved = some (f.byte 2, f.word 3)) ∧
      (∀ h, (s.ctx h).state.isMoving = false) ∧ s.drive.jog = none ∧ NoEntry s
    (roleOf f.station ≠ .service ∨ key = false → exec (.setParam key) s = .next (reply kept f .refusedAuthority)) ∧
    (roleOf f.station = .service → key = true → ¬ free → exec (.setParam key) s = .next (reply kept f .busy)) ∧
    (roleOf f.station = .service → key = true → free → (itemValueOk (f.byte 2) v = false ∨ copy.sound = false) →
      exec (.setParam key) s = .next (reply kept f .badValue)) ∧
    (roleOf f.station = .service → key = true → free → itemValueOk (f.byte 2) v = true → copy.sound = true →
      let taken : State := { kept with
        store := { s.store with copy := copy, write := some ⟨f.byte 2, f.word 3, v⟩ }
        link := { (popped s).link with
          stations := s.link.stations.set f.station
            { s.station f.station with outstanding := some ⟨f.data.get 0, f.data.get 1⟩ } } }
      (∃ t, exec (.setParam key) s = .next t ∧ t.store = taken.store ∧ t.link.stations = taken.link.stations ∧
        t.link.rx = taken.link.rx ∧ t.holds = s.holds ∧ t.junctions = s.junctions) ∧
      (s.imageValid = false ∨ s.store.copy.item (f.byte 2) (f.word 3) = v ∨
        f.byte 2 ∈ [2, 8, 9, 10, 15, 16, 17, 18, 19, 20, 21, 23, 24, 25, 26, 27, 28] →
        exec (.setParam key) s = .next taken) ∧
      (s.imageValid = true → s.store.copy.item (f.byte 2) (f.word 3) ≠ v →
        (∀ h : Hatch, f.word 3 = h.val + 1 →
          (item = 1 ∨ item = 3 → (s.ctx h).mark = false → exec (.setParam key) s = .next (judged taken h)) ∧
          (item = 4 → exec (.setParam key) s = .next { taken with stops := { s.stops with
            clearing := s.stops.clearing.set h 0 } })) ∧
        (item = 5 ∨ item = 6 ∨ item = 7 → ∀ id : CleatId, f.word 3 = id.val → NothingWaits s (cleatHatch id) →
          exec (.setParam key) s =
            .next (judged (retain (taken.setSlot id (rebuilt copy id)) (.cleat id)) (cleatHatch id))) ∧
        (item = 11 → ∀ k : PumpId, f.word 3 = k.val + 1 →
          let p := s.pump k
          let stopped : Pump := { p with rated := 0, state := if p.feedback then .stopping else .disabled, timer := 0 }
          let q : Pump := match p.state with
            | .disabled =>
              if v = 0 then { p with rated := 0 }
              else if p.feedback then { p with rated := v.toNat, state := .tripped, cause := some .failToStop }
              else { p with rated := v.toNat, state := .off }
            | .off => if v = 0 then { p with rated := 0, state := .disabled } else { p with rated := v.toNat }
            | .starting | .running => if v = 0 then stopped else { p with rated := v.toNat }
            | .stopping | .tripped => { p with rated := v.toNat }
          ∃ t, exec (.setParam key) s = .next t ∧ t.pump k = q ∧ OtherPumpsKept s t k ∧ NoEntry t ∧
            OnlyFlowChanges taken t ∧ t.supply.available = availableNow t) ∧
        (item = 12 ∨ item = 13 ∨ item = 14 →
          ∃ t, exec (.setParam key) s = .next t ∧ t.supply = { s.supply with available := availableNow taken } ∧
            NoEntry t ∧ OnlyFlowChanges taken t) ∧
        (item = 22 → (∀ h, (s.ctx h).mark = false) →
          ∃ t, exec (.setParam key) s = .next t ∧ VerdictsCurrent t ∧
            t = { taken with table := { s.table with verdict := t.table.verdict, reason := t.table.reason } }) ∧
        (item = 29 →
          (s.arbiter.idleTimer < s.params.idleTime → (s.arbiter.idleTimer : Int) < v →
            exec (.setParam key) s = .next taken) ∧
          (s.params.idleTime ≤ s.arbiter.idleTimer →
            exec (.setParam key) s = .next { taken with arbiter := { s.arbiter with idleTimer := v.toNat } }) ∧
          (s.arbiter.idleTimer < s.params.idleTime → v ≤ s.arbiter.idleTimer →
            ∃ t, exec (.setParam key) s = .next t ∧ t.arbiter.idleTimer = v.toNat ∧ NoEntry t ∧ OnlyFlowChanges taken t ∧
              ∀ k, t.pump k = if (s.pump k).state = .running then
                { s.pump k with
                  state := if (s.pump k).feedback then .stopping else if (s.pump k).rated = 0 then .disabled else .off
                  timer := 0 }
                else s.pump k)) ∧
        (item = 30 → exec (.setParam key) s = .next { taken with supply := { s.supply with
          lowTimer := if lowCounts taken then s.supply.lowTimer else 0
          recoveryTimer := if recoveryCounts taken then s.supply.recoveryTimer else 0 } })))

/-- WRITE_STORED, WRITE_UNSTORED and WRITE_TIMEOUT (R182, R183, R165): the write ends and the outstanding request is answered OK with
item, index and value. Stored, the written mark is set and an unsaved item naming it is removed, and with the image INVALID and
every mark set the image becomes VALID. Unstored, the item is recorded unsaved unless one is, and the answer says "not stored". That
a stored write with the image VALID makes the external memory sound again is read from the spec by inference (assumption log 16). -/
def Obligations.WriteEndsAnswered : Prop :=
  ∀ (s : State) (w : ParamWrite) (o : Outstanding) (k : Fin 949), Running s → s.store.write = some w →
    (s.station 13).outstanding = some o → itemExists w.item w.index = true → k.val = itemPlace w.item w.index →
    let answered (s : State) (stored : Bool) : State := { s with link := { s.link with
      stations := s.link.stations.set 13 { s.station 13 with outstanding := none }
      tx := s.link.tx ++ [⟨0x28D, eightBytes ([o.kind, o.tag, 0, byteOf (w.item + if stored then 0 else 128)] ++
        bytes2 w.index ++ signed2 w.value)⟩] } }
    let unstored : State := { answered s false with store := { s.store with
      write := none
      unsaved := s.store.unsaved.or (some (w.item, w.index)) } }
    let stored : State := { answered s true with store := { s.store with
      write := none
      written := s.store.written.set k true
      unsaved := if s.store.unsaved = some (w.item, w.index) then none else s.store.unsaved } }
    exec .writeUnstored s = .next unstored ∧ exec .writeTimeout s = .next unstored ∧
    (s.imageValid = true →
      exec .writeStored s = .next { stored with store := { stored.store with memoryFailing := false } }) ∧
    (s.imageValid = false → s.store.image = .reading ∨ (∃ j, stored.store.written.get j = false) →
      exec .writeStored s = .next stored) ∧
    (s.store.image = .invalid → (∀ j, stored.store.written.get j = true) →
      ∃ t, exec .writeStored s = .next t ∧ t.imageValid = true ∧ (∀ i, (t.pump i).rated = s.store.copy.rated i) ∧
        ∀ id, (t.slot id).isSome = s.store.copy.fitted id)

/-- RETENTION_WRITE_END (R185, R24, R45): the memory takes the record as it stood when its write began, and the write at the head of
the list begins with its record as it stands now, or none does where the list is empty. Nothing else changes. That nothing at all
changes with no write under way is the model's choice (assumption log 5). -/
def Obligations.RetentionWritesInOrder : Prop :=
  ∀ s : State, Running s →
    let ended (r : Retention) : State := { s with retention := { r with
      underWay := match s.retention.waiting with
        | [] => none
        | .holds :: _ =>
          some (.holds (s.holds.entries.map fun e => { e with stale := false }) s.holds.counter)
        | .cleat id :: _ => some (.cleat id (match s.slot id with
          | none => ⟨none, none, none, 0⟩
          | some r => ⟨some r.service, r.confirmation, r.retirement, r.faultCount⟩))
      waiting := s.retention.waiting.tail } }
    (s.retention.underWay = none → exec .retentionWriteEnd s = .next s) ∧
    (∀ es c, s.retention.underWay = some (.holds es c) →
      exec .retentionWriteEnd s = .next (ended { s.retention with entries := es, counter := c })) ∧
    ∀ id k, s.retention.underWay = some (.cleat id k) →
      exec .retentionWriteEnd s = .next (ended { s.retention with cleats := s.retention.cleats.set id k })

/-! ### Sensing -/

/-- SCAN (R131 to R133, R193, R6): every scan begins with the poll, the number of the hatch. A scan with its good frame begins anew; a
missed scan is counted, cuts the accepted lists back and empties the candidates; the third in a row takes the line LOST: positions
INVALID, speeds none, jack and sensor-fitted cleat verdicts and the securing verdict UNVERIFIED. A moving hatch, alone in the Arbiter
and with no jog, takes FAULT (JUNCTION). -/
def Obligations.MissedScansLoseTheLine : Prop :=
  ∀ (s : State) (h : Hatch), Running s →
    let j := { s.junctions.get h with goodFrame := false, poll := some (byteOf (h.val + 1)) }
    let cut (p : PanelSense) : PanelSense := { p with accepted := p.accepted.take 1, candidates := [] }
    let missed (st : JunctionState) (n : Nat) : State := s.setJunction h { j with
      state := st, misses := n, missedScans := min 65535 (j.missedScans + 1), panels := ⟨cut j.panels.port, cut j.panels.stbd⟩ }
    ((s.junctions.get h).goodFrame = true → exec (.scan h) s = .next (s.setJunction h j)) ∧
    ((s.junctions.get h).goodFrame = false →
      (j.state = .online → exec (.scan h) s = .next (missed .missing 1)) ∧
      (j.state = .missing → j.misses < 2 → exec (.scan h) s = .next (missed .missing (j.misses + 1))) ∧
      (j.state = .lost → exec (.scan h) s = .next (s.setJunction h
        { j with misses := 3, missedScans := min 65535 (j.missedScans + 1) })) ∧
      (j.state = .missing → 2 ≤ j.misses →
        ∃ t, exec (.scan h) s = .next t ∧ (t.junctions.get h).state = .lost ∧ (t.junctions.get h).misses = 3 ∧
          (t.junctions.get h).missedScans = min 65535 (j.missedScans + 1) ∧ (t.junctions.get h).goodFrame = false ∧
          (t.junctions.get h).poll = j.poll ∧
          (∀ p, (t.panel h p).position = none ∧ (t.panel h p).speed = none ∧ (t.panel h p).accepted = [] ∧
            (t.panel h p).candidates = [] ∧ (t.panel h p).jackHistory = [] ∧ (t.panel h p).jack = .unverified) ∧
          (∀ id r, cleatHatch id = h → t.slot id = some r → r.sensor = true → r.verdict = .unverified) ∧
          (∀ g, g ≠ h → t.junctions.get g = s.junctions.get g) ∧ t.holds = s.holds ∧ t.stops = s.stops ∧
          t.alarm = true ∧
          (OnlyEntryOf s h → s.drive.jog = none → t.table.verdict.get h = .unverified ∧
            (t.ctx h).state = (if (s.ctx h).state.isMoving then .fault else (s.ctx h).state) ∧
            ((s.ctx h).state.isMoving = true → (t.ctx h).lastFault = some .junction))))

/-- JUNCTION_FRAME (R131, R193): a frame of another length than fourteen or with a wrong CRC-8 is counted and discarded, and so is a
second good one of a scan. The first good one brings the line ONLINE. A position within 60 mm of the held one is taken, with the
speed over three (R137, R139), and one beyond is rejected, the third in a row making it INVALID; an INVALID one recovers at three
candidates within 60 mm (R138). Three agreeing samples decide a jack verdict (R136) and a cleat verdict, with its fault count and LOST
(R4, R5, R7, R8). With no mark: an UNKNOWN hatch whose sensing is complete is derived (R51; with a panel at or beyond stow
length plus 100 mm it is HELD by R69, also where R50 alone would give OPEN, assumption log 35); a CLEAT or JACK step whose done condition
has come about completes, with its step boundary (R57, R58); and on a CLOSED hatch a HYDRAULIC cleat that leaves ENGAGED is wanted, or
LOST at three tries (R153), and its RECLAMP joins (R155). The spec gives no order for the parts of one frame; the model's is in
assumption log 10. -/
def Obligations.GoodFrameIsSampled : Prop :=
  ∀ (s : State) (h : Hatch) (bs : List Byte), Running s →
    let j := s.junctions.get h
    let good : Prop := bs.length = 14 ∧ bs[13]? = some (crc8 (bs.take 13))
    let bit (k n : Nat) : Bool := (bs.getD k 0).getLsbD n
    let cleatBits (id : CleatId) : Sample :=
      ⟨bit (id.val % 32 / 4) (7 - id.val % 4 * 2), bit (id.val % 32 / 4) (6 - id.val % 4 * 2)⟩
    let jackBits : Panel → Sample
      | .port => ⟨bit 8 7, bit 8 6⟩
      | .stbd => ⟨bit 8 5, bit 8 4⟩
    let sent (k : Nat) : Nat := ((bs.getD k 0).toNat * 256 + (bs.getD (k + 1) 0).toNat) % 16384
    let queued (next : StepName) : Entry :=
      ⟨h, .step next, classFor (s.ctx h) next, s.params.stepN next, s.params.stepM next, s.arbiter.counter + 1, false⟩
    (¬ good → exec (.junctionFrame h bs) s =
      .next (s.setJunction h { j with frameErrors := min 65535 (j.frameErrors + 1) })) ∧
    (good → j.goodFrame = true → exec (.junctionFrame h bs) s = .next s) ∧
    (good → j.goodFrame = false →
      ∃ t, exec (.junctionFrame h bs) s = .next t ∧ (t.junctions.get h).state = .online ∧ (t.junctions.get h).misses = 0 ∧
        (t.junctions.get h).goodFrame = true ∧ (t.junctions.get h).poll = j.poll ∧
        (∀ g, g ≠ h → t.junctions.get g = s.junctions.get g) ∧
        t.holds = s.holds ∧ t.stops = s.stops ∧ t.analog = s.analog ∧ t.store = s.store ∧
        (∀ p : Panel,
          let o := s.panel h p
          let n := t.panel h p
          let y := match p with
            | .port => sent 9
            | .stbd => sent 11
          let jacks := (jackBits p :: o.jackHistory).take 3
          let taken := (y :: o.accepted).take 3
          let tried := (y :: o.candidates).take 3
          (∀ x, o.position = some x →
            (y ≤ x + 60 → x ≤ y + 60 → n.position = some y ∧ n.rejectRun = 0 ∧ n.rejectTotal = o.rejectTotal ∧
              n.accepted = taken ∧
              n.speed = match taken with
                | [_, _, c] => some (((y : Int) - c) * 10)
                | _ => o.speed) ∧
            (x + 60 < y ∨ y + 60 < x → n.rejectTotal = min 65535 (o.rejectTotal + 1) ∧
              (o.rejectRun < 2 → n.position = some x ∧ n.rejectRun = o.rejectRun + 1 ∧ n.accepted = o.accepted.take 1) ∧
              (2 ≤ o.rejectRun → n.position = none ∧ n.rejectRun = 0 ∧ n.speed = none ∧ n.accepted = []))) ∧
          (o.position = none →
            (∀ b c, tried = [y, b, c] → max y (max b c) ≤ min y (min b c) + 60 → n.position = some y ∧ n.accepted = tried ∧
              n.candidates = [] ∧ n.speed = some (((y : Int) - c) * 10)) ∧
            ((∀ b c, tried = [y, b, c] → min y (min b c) + 60 < max y (max b c)) →
              n.position = none ∧ n.candidates = tried)) ∧
          n.jackHistory = jacks ∧
          (∀ x, jacks = [x, x, x] → n.jack = match x with
            | ⟨true, false⟩ => .lifted
            | ⟨false, true⟩ => .lowered
            | ⟨false, false⟩ => .between
            | ⟨true, true⟩ => .switchFault) ∧
          ((∀ x, jacks ≠ [x, x, x]) → n.jack = o.jack)) ∧
        (∀ id r, cleatHatch id = h → s.slot id = some r → r.sensor = true →
          let samples := (cleatBits id :: if j.state = .lost then [] else r.history).take 8
          ∃ u, t.slot id = some u ∧ u.history = samples ∧ u.service = r.service ∧ u.confirmation = r.confirmation ∧
            u.retirement = r.retirement ∧
            (∀ x, samples.take 3 = [x, x, x] → u.verdict = match x with
              | ⟨true, false⟩ => .engaged
              | ⟨false, true⟩ => .released
              | ⟨false, false⟩ => .moving
              | ⟨true, true⟩ => .sensorFault) ∧
            ((∀ x, samples.take 3 ≠ [x, x, x]) → u.verdict = r.verdict) ∧
            u.faultCount = (if u.verdict = .sensorFault ∧ r.verdict ≠ .sensorFault then min 255 (r.faultCount + 1)
              else r.faultCount) ∧
            (u.verdict = .engaged → r.verdict ≠ .engaged → u.lost = false)) ∧
        ((s.ctx h).mark = false → (s.ctx h).step = none → (s.ctx h).state = .unknown → s.imageValid = true →
          (∀ p, (t.panel h p).position ≠ none ∧ (t.panel h p).jack ≠ .unverified) →
          let st : HatchState :=
            if bothClosed t h && bothJacks t h .lowered then .closed
            else if bothStowed t h && bothJacks t h .lowered && !anyBeyondStow t h then .open else .held
          (t.ctx h).state = st ∧ (t.ctx h).held = (if st = .held then some .restart else none) ∧ (t.ctx h).next = none ∧
            (t.ctx h).faults = 0 ∧ (t.ctx h).lastFault = none ∧ (t.ctx h).mark = false) ∧
        (∀ st, (s.ctx h).step = some st → st.phase = .active → NothingWaits s h → s.drive.jog = none → OnlyEntryOf s h →
          (∀ p x, (t.panel h p).position = some x → x < s.params.stow h + 100) →
          let leads (name : StepName) (state : HatchState) (next : StepName) : Prop :=
            st.name = name → (s.ctx h).state = state →
            let gated : Bool := next.isRoll && heelGates s
            (isBlocked s h (.step next) = true →
              t.ctx h = { s.ctx h with state := .held, held := some .hold, next := none, step := none } ∧ NoEntry t) ∧
            (isBlocked s h (.step next) = false → s.tripped h = true →
              t.ctx h = { s.ctx h with state := .held, held := some .trip, next := none, step := none } ∧ NoEntry t) ∧
            (isBlocked s h (.step next) = false → s.tripped h = false → s.supply.available < s.params.stepM next →
              s.arbiter.counter < 65535 →
              t.ctx h = { s.ctx h with
                step := some (joined next (classFor (s.ctx h) next) (if gated then .gated else .queued)) } ∧
              t.arbiter.pending = (if gated then [] else [queued next]) ∧ t.arbiter.granted = [])
          let ends (name : StepName) (state last : HatchState) : Prop :=
            st.name = name → (s.ctx h).state = state →
            t.ctx h = { s.ctx h with state := last, held := none, next := none, step := none } ∧ NoEntry t
          (allHydraulic s h .released = false → allHydraulic t h .released = true → leads .release .opening .lift) ∧
          (bothJacks s h .lifted = false → bothJacks t h .lifted = true →
            leads .lift .opening .rollOut ∧ leads .unpark .closing .rollIn) ∧
          (bothJacks s h .lowered = false → bothJacks t h .lowered = true →
            ends .park .opening .open ∧ leads .lower .closing .engage) ∧
          (allHydraulic s h .engaged = false → allHydraulic t h .engaged = true → ends .engage .closing .closed)) ∧
        ((s.ctx h).mark = false → (s.ctx h).state = .closed → ∀ id r u, cleatHatch id = h → s.slot id = some r →
          t.slot id = some u → r.service = .inService → r.manual = false → r.verdict = .engaged →
          u.verdict = .released ∨ u.verdict = .moving ∨ u.verdict = .sensorFault → r.wanted = .no →
          ((s.ctx h).step = none ∨ Reclamping s h →
            (r.tries < 3 → u.wanted ≠ .no ∧ u.lost = r.lost) ∧ (3 ≤ r.tries → u.wanted = .no ∧ u.lost = true)) ∧
          (r.tries < 3 → (s.ctx h).step = none → NoEntry s → s.drive.jog = none → s.tripped h = false →
            isBlocked s h (.step .reclamp) = false → s.supply.available < s.params.stepM .reclamp →
            s.arbiter.counter < 65535 →
            u.wanted = .waiting ∧ t.ctx h = { s.ctx h with step := some (joined .reclamp .secure .queued) } ∧
              t.arbiter.pending = [queued .reclamp] ∧ t.arbiter.granted = [])))

/-- ANALOG_SAMPLE (R140 to R142, R92, R95): an in-band code of a channel without fault gives
lo + floor((c − 800) × (hi − lo) / 3200), with c clamped to 800 to 4000, over the range of its channel; a code out of band, or a transfer that did not complete, keeps the value,
the third in a row setting the fault; a faulted channel needs three in-band samples in a row to clear. OVERTEMP follows the
temperature and A is computed again. Before the image is VALID T_hot is the default (assumption log 6). -/
def Obligations.AnalogSamplesScale : Prop :=
  ∀ (s : State) (codes : Option AnalogCodes), Running s →
    ∃ t, exec (.analogSample codes) s = .next t ∧ t.holds = s.holds ∧ t.junctions = s.junctions ∧ t.store = s.store ∧
      t.supply.available = availableNow
        { s with analog := t.analog, supply := { s.supply with overtemp := t.supply.overtemp } } ∧
      (t.analog.temperature.reading = none → t.supply.overtemp = s.supply.overtemp) ∧
      (∀ x, t.analog.temperature.reading = some x →
        (s.params.tHot < x → t.supply.overtemp = true ∧ t.supply.overtempSeen = true) ∧
        (x ≤ s.params.tHot - 5 → t.supply.overtemp = false ∧ t.supply.overtempSeen = s.supply.overtempSeen) ∧
        (s.params.tHot - 5 < x → x ≤ s.params.tHot →
          t.supply.overtemp = s.supply.overtemp ∧ t.supply.overtempSeen = s.supply.overtempSeen)) ∧
      ∀ (get : Analog → AnalogRec) (pick : AnalogCodes → BitVec 12) (lo hi : Int),
        (get, pick, lo, hi) ∈ ([(Analog.pressure, AnalogCodes.pressure, 0, 4000),
          (Analog.temperature, AnalogCodes.temperature, -20, 120), (Analog.heel, AnalogCodes.heel, -200, 200),
          (Analog.wind, AnalogCodes.wind, 0, 600)] :
            List ((Analog → AnalogRec) × (AnalogCodes → BitVec 12) × Int × Int)) →
        let r := get s.analog
        let u := get t.analog
        let inBand (c : AnalogCodes) : Prop := 720 ≤ (pick c).toNat ∧ (pick c).toNat ≤ 4080
        let value (c : AnalogCodes) : Int := lo + (max 800 (min 4000 ((pick c).toNat : Int)) - 800) * (hi - lo) / 3200
        (∀ c, codes = some c → inBand c →
          (r.fault = false → u.value = some (value c) ∧ u.fault = false ∧ u.outRun = 0) ∧
          (r.fault = true → r.inRun < 2 → u.fault = true ∧ u.inRun = r.inRun + 1 ∧ u.value = r.value) ∧
          (r.fault = true → 2 ≤ r.inRun → u.fault = false ∧ u.value = some (value c))) ∧
        ((∀ c, codes = some c → ¬ inBand c) →
          u.value = r.value ∧ (r.fault = true → u.fault = true ∧ u.inRun = 0) ∧
          (r.fault = false → r.outRun < 2 → u.fault = false ∧ u.outRun = r.outRun + 1) ∧
          (r.fault = false → 2 ≤ r.outRun → u.fault = true ∧ u.faultCount = min 65535 (r.faultCount + 1)))
end

