-- ==== Sys2Proof/Laws/State.lean ====
section
/-!
SUPPORT. Laws/State.lean: what each replacement of one record leaves as it was, field by field, and what is read after it, so
that no proof unfolds a record update.
-/

namespace Sys2Proof.Machine
open Sys2Proof

variable (s : State)

/-! ### setCtx -/

@[simp] theorem State.setCtx_table (h : Hatch) (c : HatchCtx) : (s.setCtx h c).table = s.table := rfl
@[simp] theorem State.setCtx_holds (h : Hatch) (c : HatchCtx) : (s.setCtx h c).holds = s.holds := rfl
@[simp] theorem State.setCtx_arbiter (h : Hatch) (c : HatchCtx) : (s.setCtx h c).arbiter = s.arbiter := rfl
@[simp] theorem State.setCtx_supply (h : Hatch) (c : HatchCtx) : (s.setCtx h c).supply = s.supply := rfl
@[simp] theorem State.setCtx_drive (h : Hatch) (c : HatchCtx) : (s.setCtx h c).drive = s.drive := rfl
@[simp] theorem State.setCtx_stops (h : Hatch) (c : HatchCtx) : (s.setCtx h c).stops = s.stops := rfl
@[simp] theorem State.setCtx_junctions (h : Hatch) (c : HatchCtx) : (s.setCtx h c).junctions = s.junctions := rfl
@[simp] theorem State.setCtx_analog (h : Hatch) (c : HatchCtx) : (s.setCtx h c).analog = s.analog := rfl
@[simp] theorem State.setCtx_link (h : Hatch) (c : HatchCtx) : (s.setCtx h c).link = s.link := rfl
@[simp] theorem State.setCtx_store (h : Hatch) (c : HatchCtx) : (s.setCtx h c).store = s.store := rfl
@[simp] theorem State.setCtx_retention (h : Hatch) (c : HatchCtx) : (s.setCtx h c).retention = s.retention := rfl
@[simp] theorem State.setCtx_keyOverride (h : Hatch) (c : HatchCtx) : (s.setCtx h c).keyOverride = s.keyOverride := rfl
@[simp] theorem State.setCtx_keyService (h : Hatch) (c : HatchCtx) : (s.setCtx h c).keyService = s.keyService := rfl
@[simp] theorem State.setCtx_inReset (h : Hatch) (c : HatchCtx) : (s.setCtx h c).inReset = s.inReset := rfl
@[simp] theorem State.setCtx_resetCause (h : Hatch) (c : HatchCtx) : (s.setCtx h c).resetCause = s.resetCause := rfl
@[simp] theorem State.setCtx_uptime (h : Hatch) (c : HatchCtx) : (s.setCtx h c).uptime = s.uptime := rfl
@[simp] theorem State.setCtx_ticks (h : Hatch) (c : HatchCtx) : (s.setCtx h c).ticks = s.ticks := rfl
@[simp] theorem State.setCtx_agenda (h : Hatch) (c : HatchCtx) : (s.setCtx h c).agenda = s.agenda := rfl
@[simp] theorem State.setCtx_pending (h : Hatch) (c : HatchCtx) : (s.setCtx h c).pending = s.pending := rfl

/-! ### updCtx -/

@[simp] theorem State.updCtx_table (h : Hatch) (f : HatchCtx → HatchCtx) : (s.updCtx h f).table = s.table := rfl
@[simp] theorem State.updCtx_holds (h : Hatch) (f : HatchCtx → HatchCtx) : (s.updCtx h f).holds = s.holds := rfl
@[simp] theorem State.updCtx_arbiter (h : Hatch) (f : HatchCtx → HatchCtx) : (s.updCtx h f).arbiter = s.arbiter := rfl
@[simp] theorem State.updCtx_supply (h : Hatch) (f : HatchCtx → HatchCtx) : (s.updCtx h f).supply = s.supply := rfl
@[simp] theorem State.updCtx_drive (h : Hatch) (f : HatchCtx → HatchCtx) : (s.updCtx h f).drive = s.drive := rfl
@[simp] theorem State.updCtx_stops (h : Hatch) (f : HatchCtx → HatchCtx) : (s.updCtx h f).stops = s.stops := rfl
@[simp] theorem State.updCtx_junctions (h : Hatch) (f : HatchCtx → HatchCtx) : (s.updCtx h f).junctions = s.junctions := rfl
@[simp] theorem State.updCtx_analog (h : Hatch) (f : HatchCtx → HatchCtx) : (s.updCtx h f).analog = s.analog := rfl
@[simp] theorem State.updCtx_link (h : Hatch) (f : HatchCtx → HatchCtx) : (s.updCtx h f).link = s.link := rfl
@[simp] theorem State.updCtx_store (h : Hatch) (f : HatchCtx → HatchCtx) : (s.updCtx h f).store = s.store := rfl
@[simp] theorem State.updCtx_retention (h : Hatch) (f : HatchCtx → HatchCtx) : (s.updCtx h f).retention = s.retention := rfl
@[simp] theorem State.updCtx_keyOverride (h : Hatch) (f : HatchCtx → HatchCtx) : (s.updCtx h f).keyOverride = s.keyOverride := rfl
@[simp] theorem State.updCtx_keyService (h : Hatch) (f : HatchCtx → HatchCtx) : (s.updCtx h f).keyService = s.keyService := rfl
@[simp] theorem State.updCtx_inReset (h : Hatch) (f : HatchCtx → HatchCtx) : (s.updCtx h f).inReset = s.inReset := rfl
@[simp] theorem State.updCtx_resetCause (h : Hatch) (f : HatchCtx → HatchCtx) : (s.updCtx h f).resetCause = s.resetCause := rfl
@[simp] theorem State.updCtx_uptime (h : Hatch) (f : HatchCtx → HatchCtx) : (s.updCtx h f).uptime = s.uptime := rfl
@[simp] theorem State.updCtx_ticks (h : Hatch) (f : HatchCtx → HatchCtx) : (s.updCtx h f).ticks = s.ticks := rfl
@[simp] theorem State.updCtx_agenda (h : Hatch) (f : HatchCtx → HatchCtx) : (s.updCtx h f).agenda = s.agenda := rfl
@[simp] theorem State.updCtx_pending (h : Hatch) (f : HatchCtx → HatchCtx) : (s.updCtx h f).pending = s.pending := rfl

/-! ### setChannel -/

@[simp] theorem State.setChannel_table (h : Hatch) (c : Channel) (r : ChannelRec) : (s.setChannel h c r).table = s.table := rfl
@[simp] theorem State.setChannel_holds (h : Hatch) (c : Channel) (r : ChannelRec) : (s.setChannel h c r).holds = s.holds := rfl
@[simp] theorem State.setChannel_hatches (h : Hatch) (c : Channel) (r : ChannelRec) : (s.setChannel h c r).hatches = s.hatches := rfl
@[simp] theorem State.setChannel_arbiter (h : Hatch) (c : Channel) (r : ChannelRec) : (s.setChannel h c r).arbiter = s.arbiter := rfl
@[simp] theorem State.setChannel_supply (h : Hatch) (c : Channel) (r : ChannelRec) : (s.setChannel h c r).supply = s.supply := rfl
@[simp] theorem State.setChannel_stops (h : Hatch) (c : Channel) (r : ChannelRec) : (s.setChannel h c r).stops = s.stops := rfl
@[simp] theorem State.setChannel_junctions (h : Hatch) (c : Channel) (r : ChannelRec) : (s.setChannel h c r).junctions = s.junctions := rfl
@[simp] theorem State.setChannel_analog (h : Hatch) (c : Channel) (r : ChannelRec) : (s.setChannel h c r).analog = s.analog := rfl
@[simp] theorem State.setChannel_link (h : Hatch) (c : Channel) (r : ChannelRec) : (s.setChannel h c r).link = s.link := rfl
@[simp] theorem State.setChannel_store (h : Hatch) (c : Channel) (r : ChannelRec) : (s.setChannel h c r).store = s.store := rfl
@[simp] theorem State.setChannel_retention (h : Hatch) (c : Channel) (r : ChannelRec) : (s.setChannel h c r).retention = s.retention := rfl
@[simp] theorem State.setChannel_keyOverride (h : Hatch) (c : Channel) (r : ChannelRec) : (s.setChannel h c r).keyOverride = s.keyOverride := rfl
@[simp] theorem State.setChannel_keyService (h : Hatch) (c : Channel) (r : ChannelRec) : (s.setChannel h c r).keyService = s.keyService := rfl
@[simp] theorem State.setChannel_inReset (h : Hatch) (c : Channel) (r : ChannelRec) : (s.setChannel h c r).inReset = s.inReset := rfl
@[simp] theorem State.setChannel_resetCause (h : Hatch) (c : Channel) (r : ChannelRec) : (s.setChannel h c r).resetCause = s.resetCause := rfl
@[simp] theorem State.setChannel_uptime (h : Hatch) (c : Channel) (r : ChannelRec) : (s.setChannel h c r).uptime = s.uptime := rfl
@[simp] theorem State.setChannel_ticks (h : Hatch) (c : Channel) (r : ChannelRec) : (s.setChannel h c r).ticks = s.ticks := rfl
@[simp] theorem State.setChannel_agenda (h : Hatch) (c : Channel) (r : ChannelRec) : (s.setChannel h c r).agenda = s.agenda := rfl
@[simp] theorem State.setChannel_pending (h : Hatch) (c : Channel) (r : ChannelRec) : (s.setChannel h c r).pending = s.pending := rfl

/-! ### updChannels -/

@[simp] theorem State.updChannels_table (h : Hatch) (f : Channel → ChannelRec → ChannelRec) : (s.updChannels h f).table = s.table := rfl
@[simp] theorem State.updChannels_holds (h : Hatch) (f : Channel → ChannelRec → ChannelRec) : (s.updChannels h f).holds = s.holds := rfl
@[simp] theorem State.updChannels_hatches (h : Hatch) (f : Channel → ChannelRec → ChannelRec) : (s.updChannels h f).hatches = s.hatches := rfl
@[simp] theorem State.updChannels_arbiter (h : Hatch) (f : Channel → ChannelRec → ChannelRec) : (s.updChannels h f).arbiter = s.arbiter := rfl
@[simp] theorem State.updChannels_supply (h : Hatch) (f : Channel → ChannelRec → ChannelRec) : (s.updChannels h f).supply = s.supply := rfl
@[simp] theorem State.updChannels_stops (h : Hatch) (f : Channel → ChannelRec → ChannelRec) : (s.updChannels h f).stops = s.stops := rfl
@[simp] theorem State.updChannels_junctions (h : Hatch) (f : Channel → ChannelRec → ChannelRec) : (s.updChannels h f).junctions = s.junctions := rfl
@[simp] theorem State.updChannels_analog (h : Hatch) (f : Channel → ChannelRec → ChannelRec) : (s.updChannels h f).analog = s.analog := rfl
@[simp] theorem State.updChannels_link (h : Hatch) (f : Channel → ChannelRec → ChannelRec) : (s.updChannels h f).link = s.link := rfl
@[simp] theorem State.updChannels_store (h : Hatch) (f : Channel → ChannelRec → ChannelRec) : (s.updChannels h f).store = s.store := rfl
@[simp] theorem State.updChannels_retention (h : Hatch) (f : Channel → ChannelRec → ChannelRec) : (s.updChannels h f).retention = s.retention := rfl
@[simp] theorem State.updChannels_keyOverride (h : Hatch) (f : Channel → ChannelRec → ChannelRec) : (s.updChannels h f).keyOverride = s.keyOverride := rfl
@[simp] theorem State.updChannels_keyService (h : Hatch) (f : Channel → ChannelRec → ChannelRec) : (s.updChannels h f).keyService = s.keyService := rfl
@[simp] theorem State.updChannels_inReset (h : Hatch) (f : Channel → ChannelRec → ChannelRec) : (s.updChannels h f).inReset = s.inReset := rfl
@[simp] theorem State.updChannels_resetCause (h : Hatch) (f : Channel → ChannelRec → ChannelRec) : (s.updChannels h f).resetCause = s.resetCause := rfl
@[simp] theorem State.updChannels_uptime (h : Hatch) (f : Channel → ChannelRec → ChannelRec) : (s.updChannels h f).uptime = s.uptime := rfl
@[simp] theorem State.updChannels_ticks (h : Hatch) (f : Channel → ChannelRec → ChannelRec) : (s.updChannels h f).ticks = s.ticks := rfl
@[simp] theorem State.updChannels_agenda (h : Hatch) (f : Channel → ChannelRec → ChannelRec) : (s.updChannels h f).agenda = s.agenda := rfl
@[simp] theorem State.updChannels_pending (h : Hatch) (f : Channel → ChannelRec → ChannelRec) : (s.updChannels h f).pending = s.pending := rfl

/-! ### setJog -/

@[simp] theorem State.setJog_table (j : Option Jog) : (s.setJog j).table = s.table := rfl
@[simp] theorem State.setJog_holds (j : Option Jog) : (s.setJog j).holds = s.holds := rfl
@[simp] theorem State.setJog_hatches (j : Option Jog) : (s.setJog j).hatches = s.hatches := rfl
@[simp] theorem State.setJog_arbiter (j : Option Jog) : (s.setJog j).arbiter = s.arbiter := rfl
@[simp] theorem State.setJog_supply (j : Option Jog) : (s.setJog j).supply = s.supply := rfl
@[simp] theorem State.setJog_stops (j : Option Jog) : (s.setJog j).stops = s.stops := rfl
@[simp] theorem State.setJog_junctions (j : Option Jog) : (s.setJog j).junctions = s.junctions := rfl
@[simp] theorem State.setJog_analog (j : Option Jog) : (s.setJog j).analog = s.analog := rfl
@[simp] theorem State.setJog_link (j : Option Jog) : (s.setJog j).link = s.link := rfl
@[simp] theorem State.setJog_store (j : Option Jog) : (s.setJog j).store = s.store := rfl
@[simp] theorem State.setJog_retention (j : Option Jog) : (s.setJog j).retention = s.retention := rfl
@[simp] theorem State.setJog_keyOverride (j : Option Jog) : (s.setJog j).keyOverride = s.keyOverride := rfl
@[simp] theorem State.setJog_keyService (j : Option Jog) : (s.setJog j).keyService = s.keyService := rfl
@[simp] theorem State.setJog_inReset (j : Option Jog) : (s.setJog j).inReset = s.inReset := rfl
@[simp] theorem State.setJog_resetCause (j : Option Jog) : (s.setJog j).resetCause = s.resetCause := rfl
@[simp] theorem State.setJog_uptime (j : Option Jog) : (s.setJog j).uptime = s.uptime := rfl
@[simp] theorem State.setJog_ticks (j : Option Jog) : (s.setJog j).ticks = s.ticks := rfl
@[simp] theorem State.setJog_agenda (j : Option Jog) : (s.setJog j).agenda = s.agenda := rfl
@[simp] theorem State.setJog_pending (j : Option Jog) : (s.setJog j).pending = s.pending := rfl

/-! ### setPump -/

@[simp] theorem State.setPump_table (k : PumpId) (p : Pump) : (s.setPump k p).table = s.table := rfl
@[simp] theorem State.setPump_holds (k : PumpId) (p : Pump) : (s.setPump k p).holds = s.holds := rfl
@[simp] theorem State.setPump_hatches (k : PumpId) (p : Pump) : (s.setPump k p).hatches = s.hatches := rfl
@[simp] theorem State.setPump_arbiter (k : PumpId) (p : Pump) : (s.setPump k p).arbiter = s.arbiter := rfl
@[simp] theorem State.setPump_drive (k : PumpId) (p : Pump) : (s.setPump k p).drive = s.drive := rfl
@[simp] theorem State.setPump_stops (k : PumpId) (p : Pump) : (s.setPump k p).stops = s.stops := rfl
@[simp] theorem State.setPump_junctions (k : PumpId) (p : Pump) : (s.setPump k p).junctions = s.junctions := rfl
@[simp] theorem State.setPump_analog (k : PumpId) (p : Pump) : (s.setPump k p).analog = s.analog := rfl
@[simp] theorem State.setPump_link (k : PumpId) (p : Pump) : (s.setPump k p).link = s.link := rfl
@[simp] theorem State.setPump_store (k : PumpId) (p : Pump) : (s.setPump k p).store = s.store := rfl
@[simp] theorem State.setPump_retention (k : PumpId) (p : Pump) : (s.setPump k p).retention = s.retention := rfl
@[simp] theorem State.setPump_keyOverride (k : PumpId) (p : Pump) : (s.setPump k p).keyOverride = s.keyOverride := rfl
@[simp] theorem State.setPump_keyService (k : PumpId) (p : Pump) : (s.setPump k p).keyService = s.keyService := rfl
@[simp] theorem State.setPump_inReset (k : PumpId) (p : Pump) : (s.setPump k p).inReset = s.inReset := rfl
@[simp] theorem State.setPump_resetCause (k : PumpId) (p : Pump) : (s.setPump k p).resetCause = s.resetCause := rfl
@[simp] theorem State.setPump_uptime (k : PumpId) (p : Pump) : (s.setPump k p).uptime = s.uptime := rfl
@[simp] theorem State.setPump_ticks (k : PumpId) (p : Pump) : (s.setPump k p).ticks = s.ticks := rfl
@[simp] theorem State.setPump_agenda (k : PumpId) (p : Pump) : (s.setPump k p).agenda = s.agenda := rfl
@[simp] theorem State.setPump_pending (k : PumpId) (p : Pump) : (s.setPump k p).pending = s.pending := rfl

/-! ### setJunction -/

@[simp] theorem State.setJunction_table (h : Hatch) (j : Junction) : (s.setJunction h j).table = s.table := rfl
@[simp] theorem State.setJunction_holds (h : Hatch) (j : Junction) : (s.setJunction h j).holds = s.holds := rfl
@[simp] theorem State.setJunction_hatches (h : Hatch) (j : Junction) : (s.setJunction h j).hatches = s.hatches := rfl
@[simp] theorem State.setJunction_arbiter (h : Hatch) (j : Junction) : (s.setJunction h j).arbiter = s.arbiter := rfl
@[simp] theorem State.setJunction_supply (h : Hatch) (j : Junction) : (s.setJunction h j).supply = s.supply := rfl
@[simp] theorem State.setJunction_drive (h : Hatch) (j : Junction) : (s.setJunction h j).drive = s.drive := rfl
@[simp] theorem State.setJunction_stops (h : Hatch) (j : Junction) : (s.setJunction h j).stops = s.stops := rfl
@[simp] theorem State.setJunction_analog (h : Hatch) (j : Junction) : (s.setJunction h j).analog = s.analog := rfl
@[simp] theorem State.setJunction_link (h : Hatch) (j : Junction) : (s.setJunction h j).link = s.link := rfl
@[simp] theorem State.setJunction_store (h : Hatch) (j : Junction) : (s.setJunction h j).store = s.store := rfl
@[simp] theorem State.setJunction_retention (h : Hatch) (j : Junction) : (s.setJunction h j).retention = s.retention := rfl
@[simp] theorem State.setJunction_keyOverride (h : Hatch) (j : Junction) : (s.setJunction h j).keyOverride = s.keyOverride := rfl
@[simp] theorem State.setJunction_keyService (h : Hatch) (j : Junction) : (s.setJunction h j).keyService = s.keyService := rfl
@[simp] theorem State.setJunction_inReset (h : Hatch) (j : Junction) : (s.setJunction h j).inReset = s.inReset := rfl
@[simp] theorem State.setJunction_resetCause (h : Hatch) (j : Junction) : (s.setJunction h j).resetCause = s.resetCause := rfl
@[simp] theorem State.setJunction_uptime (h : Hatch) (j : Junction) : (s.setJunction h j).uptime = s.uptime := rfl
@[simp] theorem State.setJunction_ticks (h : Hatch) (j : Junction) : (s.setJunction h j).ticks = s.ticks := rfl
@[simp] theorem State.setJunction_agenda (h : Hatch) (j : Junction) : (s.setJunction h j).agenda = s.agenda := rfl
@[simp] theorem State.setJunction_pending (h : Hatch) (j : Junction) : (s.setJunction h j).pending = s.pending := rfl

/-! ### setSlot -/

@[simp] theorem State.setSlot_holds (id : CleatId) (r : Option CleatRec) : (s.setSlot id r).holds = s.holds := rfl
@[simp] theorem State.setSlot_hatches (id : CleatId) (r : Option CleatRec) : (s.setSlot id r).hatches = s.hatches := rfl
@[simp] theorem State.setSlot_arbiter (id : CleatId) (r : Option CleatRec) : (s.setSlot id r).arbiter = s.arbiter := rfl
@[simp] theorem State.setSlot_supply (id : CleatId) (r : Option CleatRec) : (s.setSlot id r).supply = s.supply := rfl
@[simp] theorem State.setSlot_drive (id : CleatId) (r : Option CleatRec) : (s.setSlot id r).drive = s.drive := rfl
@[simp] theorem State.setSlot_stops (id : CleatId) (r : Option CleatRec) : (s.setSlot id r).stops = s.stops := rfl
@[simp] theorem State.setSlot_junctions (id : CleatId) (r : Option CleatRec) : (s.setSlot id r).junctions = s.junctions := rfl
@[simp] theorem State.setSlot_analog (id : CleatId) (r : Option CleatRec) : (s.setSlot id r).analog = s.analog := rfl
@[simp] theorem State.setSlot_link (id : CleatId) (r : Option CleatRec) : (s.setSlot id r).link = s.link := rfl
@[simp] theorem State.setSlot_store (id : CleatId) (r : Option CleatRec) : (s.setSlot id r).store = s.store := rfl
@[simp] theorem State.setSlot_retention (id : CleatId) (r : Option CleatRec) : (s.setSlot id r).retention = s.retention := rfl
@[simp] theorem State.setSlot_keyOverride (id : CleatId) (r : Option CleatRec) : (s.setSlot id r).keyOverride = s.keyOverride := rfl
@[simp] theorem State.setSlot_keyService (id : CleatId) (r : Option CleatRec) : (s.setSlot id r).keyService = s.keyService := rfl
@[simp] theorem State.setSlot_inReset (id : CleatId) (r : Option CleatRec) : (s.setSlot id r).inReset = s.inReset := rfl
@[simp] theorem State.setSlot_resetCause (id : CleatId) (r : Option CleatRec) : (s.setSlot id r).resetCause = s.resetCause := rfl
@[simp] theorem State.setSlot_uptime (id : CleatId) (r : Option CleatRec) : (s.setSlot id r).uptime = s.uptime := rfl
@[simp] theorem State.setSlot_ticks (id : CleatId) (r : Option CleatRec) : (s.setSlot id r).ticks = s.ticks := rfl
@[simp] theorem State.setSlot_agenda (id : CleatId) (r : Option CleatRec) : (s.setSlot id r).agenda = s.agenda := rfl
@[simp] theorem State.setSlot_pending (id : CleatId) (r : Option CleatRec) : (s.setSlot id r).pending = s.pending := rfl

/-! ### setStation -/

@[simp] theorem State.setStation_table (n : StationId) (r : Station) : (s.setStation n r).table = s.table := rfl
@[simp] theorem State.setStation_holds (n : StationId) (r : Station) : (s.setStation n r).holds = s.holds := rfl
@[simp] theorem State.setStation_hatches (n : StationId) (r : Station) : (s.setStation n r).hatches = s.hatches := rfl
@[simp] theorem State.setStation_arbiter (n : StationId) (r : Station) : (s.setStation n r).arbiter = s.arbiter := rfl
@[simp] theorem State.setStation_supply (n : StationId) (r : Station) : (s.setStation n r).supply = s.supply := rfl
@[simp] theorem State.setStation_drive (n : StationId) (r : Station) : (s.setStation n r).drive = s.drive := rfl
@[simp] theorem State.setStation_stops (n : StationId) (r : Station) : (s.setStation n r).stops = s.stops := rfl
@[simp] theorem State.setStation_junctions (n : StationId) (r : Station) : (s.setStation n r).junctions = s.junctions := rfl
@[simp] theorem State.setStation_analog (n : StationId) (r : Station) : (s.setStation n r).analog = s.analog := rfl
@[simp] theorem State.setStation_store (n : StationId) (r : Station) : (s.setStation n r).store = s.store := rfl
@[simp] theorem State.setStation_retention (n : StationId) (r : Station) : (s.setStation n r).retention = s.retention := rfl
@[simp] theorem State.setStation_keyOverride (n : StationId) (r : Station) : (s.setStation n r).keyOverride = s.keyOverride := rfl
@[simp] theorem State.setStation_keyService (n : StationId) (r : Station) : (s.setStation n r).keyService = s.keyService := rfl
@[simp] theorem State.setStation_inReset (n : StationId) (r : Station) : (s.setStation n r).inReset = s.inReset := rfl
@[simp] theorem State.setStation_resetCause (n : StationId) (r : Station) : (s.setStation n r).resetCause = s.resetCause := rfl
@[simp] theorem State.setStation_uptime (n : StationId) (r : Station) : (s.setStation n r).uptime = s.uptime := rfl
@[simp] theorem State.setStation_ticks (n : StationId) (r : Station) : (s.setStation n r).ticks = s.ticks := rfl
@[simp] theorem State.setStation_agenda (n : StationId) (r : Station) : (s.setStation n r).agenda = s.agenda := rfl
@[simp] theorem State.setStation_pending (n : StationId) (r : Station) : (s.setStation n r).pending = s.pending := rfl

/-! ### push -/

@[simp] theorem State.push_table (ts : List Task) : (s.push ts).table = s.table := rfl
@[simp] theorem State.push_holds (ts : List Task) : (s.push ts).holds = s.holds := rfl
@[simp] theorem State.push_hatches (ts : List Task) : (s.push ts).hatches = s.hatches := rfl
@[simp] theorem State.push_arbiter (ts : List Task) : (s.push ts).arbiter = s.arbiter := rfl
@[simp] theorem State.push_supply (ts : List Task) : (s.push ts).supply = s.supply := rfl
@[simp] theorem State.push_drive (ts : List Task) : (s.push ts).drive = s.drive := rfl
@[simp] theorem State.push_stops (ts : List Task) : (s.push ts).stops = s.stops := rfl
@[simp] theorem State.push_junctions (ts : List Task) : (s.push ts).junctions = s.junctions := rfl
@[simp] theorem State.push_analog (ts : List Task) : (s.push ts).analog = s.analog := rfl
@[simp] theorem State.push_link (ts : List Task) : (s.push ts).link = s.link := rfl
@[simp] theorem State.push_store (ts : List Task) : (s.push ts).store = s.store := rfl
@[simp] theorem State.push_retention (ts : List Task) : (s.push ts).retention = s.retention := rfl
@[simp] theorem State.push_keyOverride (ts : List Task) : (s.push ts).keyOverride = s.keyOverride := rfl
@[simp] theorem State.push_keyService (ts : List Task) : (s.push ts).keyService = s.keyService := rfl
@[simp] theorem State.push_inReset (ts : List Task) : (s.push ts).inReset = s.inReset := rfl
@[simp] theorem State.push_resetCause (ts : List Task) : (s.push ts).resetCause = s.resetCause := rfl
@[simp] theorem State.push_uptime (ts : List Task) : (s.push ts).uptime = s.uptime := rfl
@[simp] theorem State.push_ticks (ts : List Task) : (s.push ts).ticks = s.ticks := rfl
@[simp] theorem State.push_pending (ts : List Task) : (s.push ts).pending = s.pending := rfl

/-! ### offered -/

@[simp] theorem State.offered_table (c : Instr) : (s.offered c).table = s.table := rfl
@[simp] theorem State.offered_holds (c : Instr) : (s.offered c).holds = s.holds := rfl
@[simp] theorem State.offered_hatches (c : Instr) : (s.offered c).hatches = s.hatches := rfl
@[simp] theorem State.offered_arbiter (c : Instr) : (s.offered c).arbiter = s.arbiter := rfl
@[simp] theorem State.offered_supply (c : Instr) : (s.offered c).supply = s.supply := rfl
@[simp] theorem State.offered_drive (c : Instr) : (s.offered c).drive = s.drive := rfl
@[simp] theorem State.offered_stops (c : Instr) : (s.offered c).stops = s.stops := rfl
@[simp] theorem State.offered_junctions (c : Instr) : (s.offered c).junctions = s.junctions := rfl
@[simp] theorem State.offered_analog (c : Instr) : (s.offered c).analog = s.analog := rfl
@[simp] theorem State.offered_link (c : Instr) : (s.offered c).link = s.link := rfl
@[simp] theorem State.offered_store (c : Instr) : (s.offered c).store = s.store := rfl
@[simp] theorem State.offered_retention (c : Instr) : (s.offered c).retention = s.retention := rfl
@[simp] theorem State.offered_keyOverride (c : Instr) : (s.offered c).keyOverride = s.keyOverride := rfl
@[simp] theorem State.offered_keyService (c : Instr) : (s.offered c).keyService = s.keyService := rfl
@[simp] theorem State.offered_inReset (c : Instr) : (s.offered c).inReset = s.inReset := rfl
@[simp] theorem State.offered_resetCause (c : Instr) : (s.offered c).resetCause = s.resetCause := rfl
@[simp] theorem State.offered_uptime (c : Instr) : (s.offered c).uptime = s.uptime := rfl
@[simp] theorem State.offered_ticks (c : Instr) : (s.offered c).ticks = s.ticks := rfl
@[simp] theorem State.offered_agenda (c : Instr) : (s.offered c).agenda = s.agenda := rfl

/-! ### Reading after a replacement -/

@[simp] theorem State.ctx_setCtx (h : Hatch) (c : HatchCtx) : (s.setCtx h c).ctx h = c := by
  simp [State.ctx, State.setCtx]

@[simp] theorem State.ctx_setCtx_ne {h k : Hatch} (c : HatchCtx) (hk : h ≠ k) : (s.setCtx h c).ctx k = s.ctx k := by
  simp [State.ctx, State.setCtx, hk]

@[simp] theorem State.ctx_updCtx (h : Hatch) (f : HatchCtx → HatchCtx) : (s.updCtx h f).ctx h = f (s.ctx h) := by
  simp [State.updCtx]

@[simp] theorem State.ctx_updCtx_ne {h k : Hatch} (f : HatchCtx → HatchCtx) (hk : h ≠ k) :
    (s.updCtx h f).ctx k = s.ctx k := by
  simp [State.updCtx, hk]

@[simp] theorem HatchChannels.get_set (t : HatchChannels) (c : Channel) (r : ChannelRec) : (t.set c r).get c = r := by
  cases c <;> rfl

@[simp] theorem HatchChannels.get_set_ne (t : HatchChannels) {c d : Channel} (r : ChannelRec) (hd : c ≠ d) :
    (t.set c r).get d = t.get d := by
  cases c <;> cases d <;> first | rfl | exact absurd rfl hd

@[simp] theorem HatchChannels.get_map (t : HatchChannels) (f : Channel → ChannelRec → ChannelRec) (c : Channel) :
    (t.map f).get c = f c (t.get c) := by
  cases c <;> rfl

@[simp] theorem State.channel_setChannel (h : Hatch) (c : Channel) (r : ChannelRec) :
    (s.setChannel h c r).channel h c = r := by
  simp [State.channel, State.setChannel]

@[simp] theorem State.channel_updChannels (h : Hatch) (f : Channel → ChannelRec → ChannelRec) (c : Channel) :
    (s.updChannels h f).channel h c = f c (s.channel h c) := by
  simp [State.channel, State.updChannels]

@[simp] theorem State.channel_updChannels_ne {h k : Hatch} (f : Channel → ChannelRec → ChannelRec) (c : Channel)
    (hk : h ≠ k) : (s.updChannels h f).channel k c = s.channel k c := by
  simp [State.channel, State.updChannels, hk]

@[simp] theorem State.jog_setJog (j : Option Jog) : (s.setJog j).drive.jog = j := rfl

@[simp] theorem State.pump_setPump (k : PumpId) (p : Pump) : (s.setPump k p).pump k = p := by
  simp [State.pump, State.setPump]

@[simp] theorem State.pump_setPump_ne {j k : PumpId} (p : Pump) (hk : j ≠ k) : (s.setPump j p).pump k = s.pump k := by
  simp [State.pump, State.setPump, hk]

@[simp] theorem State.slot_setSlot (id : CleatId) (r : Option CleatRec) : (s.setSlot id r).slot id = r := by
  simp [State.slot, State.setSlot]

@[simp] theorem State.slot_setSlot_ne {i k : CleatId} (r : Option CleatRec) (hk : i ≠ k) :
    (s.setSlot i r).slot k = s.slot k := by
  simp [State.slot, State.setSlot, hk]

@[simp] theorem State.station_setStation (n : StationId) (r : Station) : (s.setStation n r).station n = r := by
  simp [State.station, State.setStation]

@[simp] theorem State.agenda_push (ts : List Task) : (s.push ts).agenda = ts ++ s.agenda := rfl

@[simp] theorem State.pending_offered (c : Instr) : (s.offered c).pending = c :: s.pending := rfl

end Sys2Proof.Machine
end

