-- ==== Sys2Proof/Laws/Frame.lean ====
section
/-!
SUPPORT. Laws/Frame.lean: what the hand-offs of an event can never change. `State.outer` keeps the Hold List, the sensing, the
stop lines, the stores, the keys, the clock, the waiting commands, the received frames, the supply flags and timers, the
applied commands and coil checks of every channel, and the kept part of every cleat record; each operation and each hand-off
leaves it as it was, and so does `settle`. A statement about one of those fields needs this and the command's own part only.
-/

namespace Sys2Proof.Machine
open Sys2Proof

/-- A channel less its targets and its master. -/
def ChannelRec.plant (r : ChannelRec) : ChannelRec :=
  { r with jogMaster := false, target := ⟨.a, 0⟩, sequencerTarget := ⟨.a, 0⟩ }

/-- A cleat record less its reclamp fields. -/
def CleatRec.steady (r : CleatRec) : CleatRec := { r with tries := 0, wanted := .no, lost := false }

/-- A pump set less its state and state timer. -/
def Pump.plate (p : Pump) : Pump := { p with state := .off, timer := 0 }

/-- The part less what the hand-offs of an event work on. -/
def State.outer (s : State) : State :=
  { s with
    table := ⟨s.table.slots.map (Option.map CleatRec.steady), Tbl.fill 9 .unverified, Tbl.fill 9 none⟩
    hatches := Tbl.fill 9 .reset
    arbiter := .reset
    supply := { s.supply with pumps := s.supply.pumps.map Pump.plate }
    drive := ⟨s.drive.channels.map (HatchChannels.map · fun _ => ChannelRec.plant), s.drive.cut, none⟩
    link := { s.link with tx := [] }
    agenda := [] }

/-! ### Reading through `outer` -/

section
variable {s t : State}

theorem holds_of_outer (h : t.outer = s.outer) : t.holds = s.holds := congrArg (·.holds) h
theorem stops_of_outer (h : t.outer = s.outer) : t.stops = s.stops := congrArg (·.stops) h
theorem junctions_of_outer (h : t.outer = s.outer) : t.junctions = s.junctions := congrArg (·.junctions) h
theorem analog_of_outer (h : t.outer = s.outer) : t.analog = s.analog := congrArg (·.analog) h
theorem store_of_outer (h : t.outer = s.outer) : t.store = s.store := congrArg (·.store) h
theorem retention_of_outer (h : t.outer = s.outer) : t.retention = s.retention := congrArg (·.retention) h
theorem keyOverride_of_outer (h : t.outer = s.outer) : t.keyOverride = s.keyOverride := congrArg (·.keyOverride) h
theorem keyService_of_outer (h : t.outer = s.outer) : t.keyService = s.keyService := congrArg (·.keyService) h
theorem inReset_of_outer (h : t.outer = s.outer) : t.inReset = s.inReset := congrArg (·.inReset) h
theorem resetCause_of_outer (h : t.outer = s.outer) : t.resetCause = s.resetCause := congrArg (·.resetCause) h
theorem uptime_of_outer (h : t.outer = s.outer) : t.uptime = s.uptime := congrArg (·.uptime) h
theorem ticks_of_outer (h : t.outer = s.outer) : t.ticks = s.ticks := congrArg (·.ticks) h
theorem pending_of_outer (h : t.outer = s.outer) : t.pending = s.pending := congrArg (·.pending) h
theorem rx_of_outer (h : t.outer = s.outer) : t.link.rx = s.link.rx := congrArg (·.link.rx) h
theorem stations_of_outer (h : t.outer = s.outer) : t.link.stations = s.link.stations := congrArg (·.link.stations) h
theorem overrun_of_outer (h : t.outer = s.outer) : t.link.overrun = s.link.overrun := congrArg (·.link.overrun) h
theorem cut_of_outer (h : t.outer = s.outer) : t.drive.cut = s.drive.cut := congrArg (·.drive.cut) h

theorem plant_of_outer (ho : t.outer = s.outer) (h : Hatch) (c : Channel) :
    (t.channel h c).plant = (s.channel h c).plant := by
  have := congrArg (fun u => ((u.drive.channels.get h).get c)) ho
  simpa [State.outer, State.channel] using this

theorem applied_of_outer (ho : t.outer = s.outer) (h : Hatch) (c : Channel) :
    (t.channel h c).applied = (s.channel h c).applied := congrArg (·.applied) (plant_of_outer ho h c)

theorem steady_of_outer (ho : t.outer = s.outer) (id : CleatId) :
    (t.slot id).map CleatRec.steady = (s.slot id).map CleatRec.steady := by
  have := congrArg (fun u => u.table.slots.get id) ho
  simpa [State.outer, State.slot] using this

theorem plate_of_outer (ho : t.outer = s.outer) (k : PumpId) : (t.pump k).plate = (s.pump k).plate := by
  have := congrArg (fun u => u.supply.pumps.get k) ho
  simpa [State.outer, State.pump] using this

end

/-! ### Replacements -/

section
variable (s : State)

@[simp] theorem setCtx_outer (h : Hatch) (c : HatchCtx) : (s.setCtx h c).outer = s.outer := rfl
@[simp] theorem updCtx_outer (h : Hatch) (f : HatchCtx → HatchCtx) : (s.updCtx h f).outer = s.outer := rfl
@[simp] theorem setJog_outer (j : Option Jog) : (s.setJog j).outer = s.outer := rfl
@[simp] theorem push_outer (ts : List Task) : (s.push ts).outer = s.outer := rfl
@[simp] theorem send_outer (t : TxFrame) : (send s t).outer = s.outer := rfl
@[simp] theorem reply_outer (f : RxFrame) (c : Code) (d : List Byte) : (reply s f c d).outer = s.outer := rfl

@[simp] theorem replyStanding_outer (f : RxFrame) (c : Code) (x : Nat) : (replyStanding s f c x).outer = s.outer := rfl

theorem Tbl.map_set {n : Nat} {α β : Type} (t : Tbl n α) (i : Fin n) (x : α) (f : α → β) :
    (t.set i x).map f = (t.map f).set i (f x) :=
  Tbl.ext_get fun j => by by_cases h : i = j <;> [(subst h; simp); simp [h]]

theorem setPump_outer {k : PumpId} {p : Pump} (hp : p.plate = (s.pump k).plate) : (s.setPump k p).outer = s.outer := by
  have : (s.supply.pumps.set k p).map Pump.plate = s.supply.pumps.map Pump.plate := by
    rw [Tbl.map_set, hp]
    refine Tbl.ext_get fun j => ?_
    by_cases h : k = j <;> [(subst h; simp [State.pump]); simp [h]]
  simp [State.outer, State.setPump, this]

theorem HatchChannels.map_set_plant (t : HatchChannels) (c : Channel) (r : ChannelRec) (hr : r.plant = (t.get c).plant) :
    (t.set c r).map (fun _ => ChannelRec.plant) = t.map fun _ => ChannelRec.plant := by
  cases c <;> simp_all [HatchChannels.map, HatchChannels.set, HatchChannels.get]

theorem setChannel_outer {h : Hatch} {c : Channel} {r : ChannelRec} (hr : r.plant = (s.channel h c).plant) :
    (s.setChannel h c r).outer = s.outer := by
  have : (s.drive.channels.upd h (·.set c r)).map (HatchChannels.map · fun _ => ChannelRec.plant) =
      s.drive.channels.map (HatchChannels.map · fun _ => ChannelRec.plant) := by
    unfold Tbl.upd
    rw [Tbl.map_set, HatchChannels.map_set_plant _ _ _ hr]
    refine Tbl.ext_get fun j => ?_
    by_cases h : h = j <;> [(subst h; simp); simp [h]]
  simp [State.outer, State.setChannel, this]

theorem updChannels_outer {h : Hatch} {f : Channel → ChannelRec → ChannelRec} (hf : ∀ c r, (f c r).plant = r.plant) :
    (s.updChannels h f).outer = s.outer := by
  have hm : ∀ t : HatchChannels, (t.map f).map (fun _ => ChannelRec.plant) = t.map fun _ => ChannelRec.plant := by
    intro t
    simp [HatchChannels.map, hf]
  have : (s.drive.channels.upd h (·.map f)).map (HatchChannels.map · fun _ => ChannelRec.plant) =
      s.drive.channels.map (HatchChannels.map · fun _ => ChannelRec.plant) := by
    unfold Tbl.upd
    rw [Tbl.map_set, hm]
    refine Tbl.ext_get fun j => ?_
    by_cases h : h = j <;> [(subst h; simp); simp [h]]
  simp [State.outer, State.updChannels, this]

theorem setSlot_outer {id : CleatId} {r : Option CleatRec}
    (hr : r.map CleatRec.steady = (s.slot id).map CleatRec.steady) : (s.setSlot id r).outer = s.outer := by
  have : (s.table.slots.set id r).map (Option.map CleatRec.steady) = s.table.slots.map (Option.map CleatRec.steady) := by
    rw [Tbl.map_set, hr]
    refine Tbl.ext_get fun j => ?_
    by_cases h : id = j <;> [(subst h; simp [State.slot]); simp [h]]
  simp [State.outer, State.setSlot, this]

theorem reclampEvent_outer {h : Hatch} {f : CleatRec → CleatRec} (hf : ∀ r, (f r).steady = r.steady) :
    (reclampEvent s h f).outer = s.outer := by
  have : ∀ id, ((reclampEvent s h f).table.slots.map (Option.map CleatRec.steady)).get id =
      (s.table.slots.map (Option.map CleatRec.steady)).get id := by
    intro id
    simp only [reclampEvent, Tbl.get_map, Tbl.get_build, State.slot]
    split
    · cases s.table.slots.get id with
      | none => rfl
      | some r => simp only [Option.map_some]; split <;> simp [hf]
    · rfl
  simp only [State.outer, Tbl.ext_get this]
  rfl

end

/-! ### The operations of Ops, Flow, Sequencer and Valve -/

section
variable (s : State)

@[simp] theorem reclass_outer (h : Hatch) : (reclass s h).outer = s.outer := by
  simp only [reclass]
  repeat' split
  all_goals rfl

@[simp] theorem clearMark_outer (h : Hatch) : (clearMark s h).outer = s.outer := by
  simp only [clearMark]
  split <;> simp

@[simp] theorem rejudge_outer (h : Hatch) : (rejudge s h).outer = s.outer := by
  simp only [rejudge]
  repeat' split
  all_goals first | rfl | (rw [clearMark_outer]; rfl)

@[simp] theorem syncReduction_outer : (syncReduction s).outer = s.outer := rfl

@[simp] theorem startPump_outer (k : PumpId) : (startPump s k).outer = s.outer := setPump_outer s rfl

@[simp] theorem allocate_outer : (allocate s).outer = s.outer := by
  simp only [allocate, push_outer, syncReduction_outer]
  split
  · rw [startPump_outer]; rfl
  · rfl

@[simp] theorem queueEntry_outer (h : Hatch) (d : Demand) (c : Cls) (n m : Nat) :
    (queueEntry s h d c n m).outer = s.outer := by
  simp only [queueEntry]
  split <;> rfl

@[simp] theorem removeEntry_outer (h : Hatch) : (removeEntry s h).outer = s.outer := rfl

@[simp] theorem takeLeave_outer (h : Hatch) : (takeLeave s h).outer = s.outer := by
  simp only [takeLeave]
  split
  · rw [allocate_outer]; rfl
  · rfl

@[simp] theorem takeReclass_outer (h : Hatch) : (takeReclass s h).outer = s.outer := by
  simp only [takeReclass]
  repeat' split
  · rfl
  · rfl
  · rw [allocate_outer]; rfl

@[simp] theorem enterState_outer (h : Hatch) (st : HatchState) (c : Option HeldCause) (n : Option NextState) :
    (enterState s h st c n).outer = s.outer := by
  simp [enterState]

@[simp] theorem enterHeld_outer (h : Hatch) (c : HeldCause) : (enterHeld s h c).outer = s.outer := by
  simp [enterHeld]

@[simp] theorem enterStopping_outer (h : Hatch) (n : NextState) : (enterStopping s h n).outer = s.outer := by
  simp only [enterStopping]
  split <;> simp

@[simp] theorem writeTargets_outer (h : Hatch) : (writeTargets s h).outer = s.outer := by
  refine updChannels_outer s fun c r => ?_
  split <;> rfl

@[simp] theorem syncStall_outer (h : Hatch) : (syncStall s h).outer = s.outer := rfl

@[simp] theorem dropStep_outer (h : Hatch) : (dropStep s h).outer = s.outer := by simp [dropStep]

@[simp] theorem withdraw_outer (h : Hatch) : (withdraw s h).outer = s.outer := by
  simp only [withdraw]
  split <;> simp

@[simp] theorem reclampStarted_outer (h : Hatch) : (reclampEvent s h .reclampStarted).outer = s.outer :=
  reclampEvent_outer s fun r => by simp only [CleatRec.reclampStarted]; split <;> rfl

@[simp] theorem reclampDone_outer (h : Hatch) : (reclampEvent s h .reclampDone).outer = s.outer :=
  reclampEvent_outer s fun r => by simp only [CleatRec.reclampDone]; split <;> rfl

@[simp] theorem reclampTimedOut_outer (h : Hatch) : (reclampEvent s h .reclampTimedOut).outer = s.outer :=
  reclampEvent_outer s fun r => by simp only [CleatRec.reclampTimedOut]; split <;> rfl

@[simp] theorem reclampKept_outer (h : Hatch) : (reclampEvent s h .reclampKept).outer = s.outer :=
  reclampEvent_outer s fun r => by simp only [CleatRec.reclampKept]; split <;> rfl

@[simp] theorem reclampAbandoned_outer (h : Hatch) : (reclampEvent s h .reclampAbandoned).outer = s.outer :=
  reclampEvent_outer s fun r => by simp only [CleatRec.reclampAbandoned]; split <;> rfl

@[simp] theorem wantedCleared_outer (h : Hatch) : (reclampEvent s h .wantedCleared).outer = s.outer :=
  reclampEvent_outer s fun _ => rfl

@[simp] theorem triesReset_outer (h : Hatch) : (reclampEvent s h .triesReset).outer = s.outer :=
  reclampEvent_outer s fun _ => rfl

@[simp] theorem complete_outer (h : Hatch) (n : StepName) : (complete s h n).outer = s.outer := by
  cases n <;> simp [complete]

@[simp] theorem doneTest_outer (h : Hatch) : (doneTest s h).outer = s.outer := by
  simp only [doneTest]
  repeat' split
  all_goals simp

@[simp] theorem joinStep_outer (h : Hatch) (n : StepName) : (joinStep s h n).outer = s.outer := by
  simp only [joinStep]
  split <;> simp

@[simp] theorem joinInPlace_outer (h : Hatch) (n : StepName) : (joinInPlace s h n).outer = s.outer := by
  simp only [joinInPlace]
  split <;> simp

@[simp] theorem joinOrHold_outer (h : Hatch) (n : StepName) : (joinOrHold s h n).outer = s.outer := by
  simp only [joinOrHold]
  repeat' split
  all_goals simp

@[simp] theorem squallTry_outer (h : Hatch) : (squallTry s h).outer = s.outer := by
  simp only [squallTry]
  repeat' split
  all_goals simp

@[simp] theorem reclampTest_outer (h : Hatch) : (reclampTest s h).outer = s.outer := by
  simp only [reclampTest]
  split <;> simp

@[simp] theorem takeUp_outer (h : Hatch) : (takeUp s h).outer = s.outer := rfl

@[simp] theorem boundary_outer (h : Hatch) (n : StepName) : (boundary s h n).outer = s.outer := by
  cases n <;> simp [boundary]

@[simp] theorem stoppingEnd_outer (h : Hatch) : (stoppingEnd s h).outer = s.outer := by
  simp only [stoppingEnd]
  repeat' split
  all_goals simp

@[simp] theorem faultHatch_outer (h : Hatch) (c : FaultCause) : (faultHatch s h c).outer = s.outer := by
  simp only [faultHatch]
  repeat' split
  all_goals simp

@[simp] theorem stopStep_outer (h : Hatch) (n : NextState) : (stopStep s h n).outer = s.outer := by simp [stopStep]

@[simp] theorem heelStop_outer (h : Hatch) : (heelStop s h).outer = s.outer := by simp [heelStop]

@[simp] theorem tripHatch_outer (h : Hatch) : (tripHatch s h).outer = s.outer := by
  simp only [tripHatch]
  repeat' split
  all_goals simp

@[simp] theorem derive_outer (h : Hatch) (c : HeldCause) : (derive s h c).outer = s.outer := by simp [derive]

@[simp] theorem deriveIfReady_outer (h : Hatch) : (deriveIfReady s h).outer = s.outer := by
  simp only [deriveIfReady]
  split <;> simp

@[simp] theorem takeGrant_outer (h : Hatch) (g : Grant) : (takeGrant s h g).outer = s.outer := by
  simp only [takeGrant]
  repeat' split
  all_goals simp

@[simp] theorem takeActivated_outer (h : Hatch) : (takeActivated s h).outer = s.outer := by
  simp only [takeActivated]
  repeat' split
  all_goals simp

@[simp] theorem takeShed_outer (h : Hatch) : (takeShed s h).outer = s.outer := by
  simp only [takeShed]
  repeat' split
  all_goals simp

@[simp] theorem takeShare_outer (h : Hatch) (g : Grant) : (takeShare s h g).outer = s.outer := by
  simp only [takeShare]
  repeat' split
  all_goals simp

@[simp] theorem reclampTrigger_outer (id : CleatId) (a b : CleatVerdict) : (reclampTrigger s id a b).outer = s.outer := by
  simp only [reclampTrigger]
  split
  · rfl
  · rename_i r hr
    repeat' split
    all_goals first
      | rfl
      | (rw [push_outer]; exact setSlot_outer s (by rw [hr]; rfl))
      | exact setSlot_outer s (by rw [hr]; rfl)

@[simp] theorem takeCleatChange_outer (id : CleatId) (a b : CleatVerdict) : (takeCleatChange s id a b).outer = s.outer := by
  simp only [takeCleatChange]
  split <;> simp

@[simp] theorem syncArrival_outer (h : Hatch) : (syncArrival s h).outer = s.outer := rfl

@[simp] theorem takePosition_outer (h : Hatch) (p : Panel) (b : Bool) : (takePosition s h p b).outer = s.outer := by
  simp only [takePosition]
  repeat' split
  all_goals simp

@[simp] theorem takeJack_outer (h : Hatch) (p : Panel) : (takeJack s h p).outer = s.outer := by
  simp only [takeJack]
  repeat' split
  all_goals simp

@[simp] theorem takeHeelWind_outer (h : Hatch) : (takeHeelWind s h).outer = s.outer := by
  simp only [takeHeelWind]
  repeat' split
  all_goals simp

@[simp] theorem writeJog_outer : (writeJog s).outer = s.outer := by
  simp only [writeJog]
  repeat' split
  all_goals first | rfl | exact setChannel_outer s rfl

@[simp] theorem refreshJog_outer : (refreshJog s).outer = s.outer := by
  simp only [refreshJog]
  repeat' split
  all_goals simp

@[simp] theorem jogRelease_outer : (jogRelease s).outer = s.outer := by
  simp only [jogRelease]
  repeat' split
  all_goals simp
  exact setChannel_outer s rfl

@[simp] theorem jogReleaseIfRest_outer : (jogReleaseIfRest s).outer = s.outer := by
  simp only [jogReleaseIfRest]
  repeat' split
  all_goals simp

@[simp] theorem jogEnd_outer : (jogEnd s).outer = s.outer := by
  simp only [jogEnd]
  repeat' split
  all_goals simp

@[simp] theorem jogEndOn_outer (h : Hatch) : (jogEndOn s h).outer = s.outer := by
  simp only [jogEndOn]
  split <;> simp

@[simp] theorem jogEndInvalid_outer (h : Hatch) (p : Panel) : (jogEndInvalid s h p).outer = s.outer := by
  simp only [jogEndInvalid]
  repeat' split
  all_goals simp

@[simp] theorem takeJogGrant_outer : (takeJogGrant s).outer = s.outer := by
  simp only [takeJogGrant]
  repeat' split
  all_goals simp
  exact setChannel_outer _ rfl

@[simp] theorem takeJogShed_outer : (takeJogShed s).outer = s.outer := by
  simp only [takeJogShed]
  repeat' split
  all_goals simp

@[simp] theorem takeOpenCoil_outer (h : Hatch) (c : Channel) : (takeOpenCoil s h c).outer = s.outer := by
  simp only [takeOpenCoil]
  repeat' split
  all_goals simp

@[simp] theorem takeStuckOn_outer (h : Hatch) (c : Channel) : (takeStuckOn s h c).outer = s.outer := by
  simp [takeStuckOn]

/-! ### Hand-offs -/

/-- No hand-off changes the outer part. -/
@[simp] theorem runTask_outer (t : Task) : (runTask t s).outer = s.outer := by
  cases t <;> simp [runTask]

end

/-- Taking hand-offs does not change the outer part. -/
@[simp] theorem drain_outer (n : Nat) (s : State) : (drain n s).outer = s.outer := by
  induction n generalizing s with
  | zero => rfl
  | succ n ih =>
    simp only [drain]
    split
    · rfl
    · rw [ih, runTask_outer]; rfl

/-- An event's hand-offs do not change the outer part. -/
@[simp] theorem settle_outer (s : State) : (settle s).outer = s.outer := drain_outer _ s

end Sys2Proof.Machine
end

