-- ==== Sys2Proof/Laws/Ports.lean ====
section
/-!
SUPPORT. Laws/Ports.lean: what of the deck link and of the supply the hand-offs of an event can change. Every operation but an
allocation and an answer leaves both as they were; an allocation changes no pump set but an OFF one, which it takes to STARTING;
an answer joins the tail of the transmit list.
-/

namespace Sys2Proof.Machine
open Sys2Proof

/-- The deck link and the supply. -/
def State.ports (s : State) : Link × Supply := (s.link, s.supply)

section
variable {s t : State}

theorem link_of_ports (h : t.ports = s.ports) : t.link = s.link := congrArg (·.1) h
theorem supply_of_ports (h : t.ports = s.ports) : t.supply = s.supply := congrArg (·.2) h

end

/-! ### Replacements -/

section
variable (s : State)

@[simp] theorem setCtx_ports (h : Hatch) (c : HatchCtx) : (s.setCtx h c).ports = s.ports := rfl
@[simp] theorem updCtx_ports (h : Hatch) (f : HatchCtx → HatchCtx) : (s.updCtx h f).ports = s.ports := rfl
@[simp] theorem setJog_ports (j : Option Jog) : (s.setJog j).ports = s.ports := rfl
@[simp] theorem setChannel_ports (h : Hatch) (c : Channel) (r : ChannelRec) : (s.setChannel h c r).ports = s.ports := rfl
@[simp] theorem setSlot_ports (id : CleatId) (r : Option CleatRec) : (s.setSlot id r).ports = s.ports := rfl
@[simp] theorem push_ports (ts : List Task) : (s.push ts).ports = s.ports := rfl
@[simp] theorem reclampEvent_ports (h : Hatch) (f : CleatRec → CleatRec) : (reclampEvent s h f).ports = s.ports := by
  simp only [reclampEvent, State.ports]

/-! ### The operations of Ops, Flow, Sequencer and Valve -/

@[simp] theorem reclass_ports (h : Hatch) : (reclass s h).ports = s.ports := by
  simp only [reclass]
  repeat' split
  all_goals rfl

@[simp] theorem clearMark_ports (h : Hatch) : (clearMark s h).ports = s.ports := by
  simp only [clearMark]
  split <;> simp

@[simp] theorem rejudge_ports (h : Hatch) : (rejudge s h).ports = s.ports := by
  simp only [rejudge]
  repeat' split
  all_goals first | rfl | (rw [clearMark_ports]; rfl)

@[simp] theorem syncReduction_ports : (syncReduction s).ports = s.ports := rfl

@[simp] theorem queueEntry_ports (h : Hatch) (d : Demand) (c : Cls) (n m : Nat) :
    (queueEntry s h d c n m).ports = s.ports := by
  simp only [queueEntry]
  split <;> rfl

@[simp] theorem removeEntry_ports (h : Hatch) : (removeEntry s h).ports = s.ports := rfl

@[simp] theorem enterState_ports (h : Hatch) (st : HatchState) (c : Option HeldCause) (n : Option NextState) :
    (enterState s h st c n).ports = s.ports := by
  simp [enterState]

@[simp] theorem enterHeld_ports (h : Hatch) (c : HeldCause) : (enterHeld s h c).ports = s.ports := by
  simp [enterHeld]

@[simp] theorem enterStopping_ports (h : Hatch) (n : NextState) : (enterStopping s h n).ports = s.ports := by
  simp only [enterStopping]
  split <;> simp

@[simp] theorem writeTargets_ports (h : Hatch) : (writeTargets s h).ports = s.ports := rfl

@[simp] theorem syncStall_ports (h : Hatch) : (syncStall s h).ports = s.ports := rfl

@[simp] theorem dropStep_ports (h : Hatch) : (dropStep s h).ports = s.ports := by simp [dropStep]

@[simp] theorem withdraw_ports (h : Hatch) : (withdraw s h).ports = s.ports := by
  simp only [withdraw]
  split <;> simp

@[simp] theorem complete_ports (h : Hatch) (n : StepName) : (complete s h n).ports = s.ports := by
  cases n <;> simp [complete]

@[simp] theorem doneTest_ports (h : Hatch) : (doneTest s h).ports = s.ports := by
  simp only [doneTest]
  repeat' split
  all_goals simp

@[simp] theorem joinStep_ports (h : Hatch) (n : StepName) : (joinStep s h n).ports = s.ports := by
  simp only [joinStep]
  split <;> simp

@[simp] theorem joinInPlace_ports (h : Hatch) (n : StepName) : (joinInPlace s h n).ports = s.ports := by
  simp only [joinInPlace]
  split <;> simp

@[simp] theorem joinOrHold_ports (h : Hatch) (n : StepName) : (joinOrHold s h n).ports = s.ports := by
  simp only [joinOrHold]
  repeat' split
  all_goals simp

@[simp] theorem squallTry_ports (h : Hatch) : (squallTry s h).ports = s.ports := by
  simp only [squallTry]
  repeat' split
  all_goals simp

@[simp] theorem reclampTest_ports (h : Hatch) : (reclampTest s h).ports = s.ports := by
  simp only [reclampTest]
  split <;> simp

@[simp] theorem takeUp_ports (h : Hatch) : (takeUp s h).ports = s.ports := rfl

@[simp] theorem boundary_ports (h : Hatch) (n : StepName) : (boundary s h n).ports = s.ports := by
  cases n <;> simp [boundary]

@[simp] theorem stoppingEnd_ports (h : Hatch) : (stoppingEnd s h).ports = s.ports := by
  simp only [stoppingEnd]
  repeat' split
  all_goals simp

@[simp] theorem faultHatch_ports (h : Hatch) (c : FaultCause) : (faultHatch s h c).ports = s.ports := by
  simp only [faultHatch]
  repeat' split
  all_goals simp

@[simp] theorem stopStep_ports (h : Hatch) (n : NextState) : (stopStep s h n).ports = s.ports := by simp [stopStep]

@[simp] theorem heelStop_ports (h : Hatch) : (heelStop s h).ports = s.ports := by simp [heelStop]

@[simp] theorem tripHatch_ports (h : Hatch) : (tripHatch s h).ports = s.ports := by
  simp only [tripHatch]
  repeat' split
  all_goals simp

@[simp] theorem derive_ports (h : Hatch) (c : HeldCause) : (derive s h c).ports = s.ports := by simp [derive]

@[simp] theorem deriveIfReady_ports (h : Hatch) : (deriveIfReady s h).ports = s.ports := by
  simp only [deriveIfReady]
  split <;> simp

@[simp] theorem takeGrant_ports (h : Hatch) (g : Grant) : (takeGrant s h g).ports = s.ports := by
  simp only [takeGrant]
  repeat' split
  all_goals simp

@[simp] theorem takeActivated_ports (h : Hatch) : (takeActivated s h).ports = s.ports := by
  simp only [takeActivated]
  repeat' split
  all_goals simp

@[simp] theorem takeShed_ports (h : Hatch) : (takeShed s h).ports = s.ports := by
  simp only [takeShed]
  repeat' split
  all_goals simp

@[simp] theorem takeShare_ports (h : Hatch) (g : Grant) : (takeShare s h g).ports = s.ports := by
  simp only [takeShare]
  repeat' split
  all_goals simp

@[simp] theorem reclampTrigger_ports (id : CleatId) (a b : CleatVerdict) : (reclampTrigger s id a b).ports = s.ports := by
  simp only [reclampTrigger]
  repeat' split
  all_goals rfl

@[simp] theorem takeCleatChange_ports (id : CleatId) (a b : CleatVerdict) : (takeCleatChange s id a b).ports = s.ports := by
  simp only [takeCleatChange]
  split <;> simp

@[simp] theorem syncArrival_ports (h : Hatch) : (syncArrival s h).ports = s.ports := rfl

@[simp] theorem takePosition_ports (h : Hatch) (p : Panel) (b : Bool) : (takePosition s h p b).ports = s.ports := by
  simp only [takePosition]
  repeat' split
  all_goals simp

@[simp] theorem takeJack_ports (h : Hatch) (p : Panel) : (takeJack s h p).ports = s.ports := by
  simp only [takeJack]
  repeat' split
  all_goals simp

@[simp] theorem takeHeelWind_ports (h : Hatch) : (takeHeelWind s h).ports = s.ports := by
  simp only [takeHeelWind]
  repeat' split
  all_goals simp

@[simp] theorem writeJog_ports : (writeJog s).ports = s.ports := by
  simp only [writeJog]
  repeat' split
  all_goals rfl

@[simp] theorem refreshJog_ports : (refreshJog s).ports = s.ports := by
  simp only [refreshJog]
  repeat' split
  all_goals simp

@[simp] theorem jogRelease_ports : (jogRelease s).ports = s.ports := by
  simp only [jogRelease]
  repeat' split
  all_goals simp

@[simp] theorem jogReleaseIfRest_ports : (jogReleaseIfRest s).ports = s.ports := by
  simp only [jogReleaseIfRest]
  repeat' split
  all_goals simp

@[simp] theorem jogEnd_ports : (jogEnd s).ports = s.ports := by
  simp only [jogEnd]
  repeat' split
  all_goals simp

@[simp] theorem jogEndOn_ports (h : Hatch) : (jogEndOn s h).ports = s.ports := by
  simp only [jogEndOn]
  split <;> simp

@[simp] theorem jogEndInvalid_ports (h : Hatch) (p : Panel) : (jogEndInvalid s h p).ports = s.ports := by
  simp only [jogEndInvalid]
  repeat' split
  all_goals simp

@[simp] theorem takeJogGrant_ports : (takeJogGrant s).ports = s.ports := by
  simp only [takeJogGrant]
  repeat' split
  all_goals simp

@[simp] theorem takeJogShed_ports : (takeJogShed s).ports = s.ports := by
  simp only [takeJogShed]
  repeat' split
  all_goals simp

@[simp] theorem takeOpenCoil_ports (h : Hatch) (c : Channel) : (takeOpenCoil s h c).ports = s.ports := by
  simp only [takeOpenCoil]
  repeat' split
  all_goals simp

@[simp] theorem takeStuckOn_ports (h : Hatch) (c : Channel) : (takeStuckOn s h c).ports = s.ports := by
  simp [takeStuckOn]

end

/-! ### Allocations, answers and hand-offs -/

/-- A pump set that is not OFF is as it was, and an OFF one is at most started. -/
def Pump.mayStart (p q : Pump) : Prop := q = p ∨ (p.state = .off ∧ q = { p with state := .starting, timer := 0 })

/-- The supply less the states and state timers of the pump sets is kept, and pump sets are at most started. -/
def OnlyStarts (s t : State) : Prop :=
  (∀ k, (s.pump k).mayStart (t.pump k)) ∧ t.supply = { s.supply with pumps := t.supply.pumps }

/-- The deck link is kept but for answers at the tail of the transmit list. -/
def OnlySends (s t : State) : Prop := ∃ xs, t.link = { s.link with tx := s.link.tx ++ xs }

theorem OnlyStarts.refl (s : State) : OnlyStarts s s := ⟨fun _ => .inl rfl, rfl⟩

theorem OnlyStarts.trans {s t u : State} (h : OnlyStarts s t) (g : OnlyStarts t u) : OnlyStarts s u := by
  refine ⟨fun k => ?_, by rw [g.2, h.2]⟩
  obtain h1 | ⟨h1, h2⟩ := h.1 k
  · obtain g1 | ⟨g1, g2⟩ := g.1 k
    · exact .inl (g1.trans h1)
    · exact .inr ⟨h1 ▸ g1, by rw [g2, h1]⟩
  · obtain g1 | ⟨g1, _⟩ := g.1 k
    · exact .inr ⟨h1, by rw [g1, h2]⟩
    · rw [h2] at g1; cases g1

theorem OnlyStarts.of_ports {s t : State} (h : t.ports = s.ports) : OnlyStarts s t := by
  have := supply_of_ports h
  exact ⟨fun k => .inl (by simp [State.pump, this]), by rw [this]⟩

theorem OnlySends.refl (s : State) : OnlySends s s := ⟨[], by simp⟩

theorem OnlySends.trans {s t u : State} (h : OnlySends s t) (g : OnlySends t u) : OnlySends s u := by
  obtain ⟨xs, hx⟩ := h
  obtain ⟨ys, hy⟩ := g
  exact ⟨xs ++ ys, by rw [hy, hx]; simp⟩

theorem OnlySends.of_ports {s t : State} (h : t.ports = s.ports) : OnlySends s t := ⟨[], by simp [link_of_ports h]⟩

theorem lowestOff_off {s : State} {k : PumpId} (h : lowestOff s = some k) : (s.pump k).state = .off := by
  simpa [State.pump] using List.find?_some h

theorem startDecision_off {s : State} {e : Option Entry} {k : PumpId} (h : startDecision s e = some k) :
    (s.pump k).state = .off := by
  simp only [startDecision] at h
  split at h
  · exact lowestOff_off h
  · cases h

theorem startPump_onlyStarts {s : State} {k : PumpId} (h : (s.pump k).state = .off) : OnlyStarts s (startPump s k) := by
  refine ⟨fun j => ?_, rfl⟩
  by_cases hj : k = j
  · subst hj; exact .inr ⟨h, by simp [startPump, State.pump, State.setPump]⟩
  · exact .inl (by simp [startPump, State.pump, State.setPump, hj])

theorem allocate_onlyStarts (s : State) : OnlyStarts s (allocate s) := by
  simp only [allocate]
  split
  · rename_i k hk
    exact startPump_onlyStarts (s := s) (startDecision_off hk)
  · exact .refl s

@[simp] theorem allocate_link (s : State) : (allocate s).link = s.link := by
  simp only [allocate]
  split <;> rfl

theorem takeLeave_onlyStarts (s : State) (h : Hatch) : OnlyStarts s (takeLeave s h) := by
  simp only [takeLeave]
  split
  · exact allocate_onlyStarts _
  · exact .refl s

theorem takeReclass_onlyStarts (s : State) (h : Hatch) : OnlyStarts s (takeReclass s h) := by
  simp only [takeReclass]
  repeat' split
  · exact .refl s
  · exact .refl s
  · exact allocate_onlyStarts _

@[simp] theorem takeLeave_link (s : State) (h : Hatch) : (takeLeave s h).link = s.link := by
  simp only [takeLeave]
  split
  · rw [allocate_link]
  · rfl

@[simp] theorem takeReclass_link (s : State) (h : Hatch) : (takeReclass s h).link = s.link := by
  simp only [takeReclass]
  repeat' split
  · rfl
  · rfl
  · rw [allocate_link]

theorem replyStanding_onlySends (s : State) (f : RxFrame) (c : Code) (x : Nat) : OnlySends s (replyStanding s f c x) :=
  ⟨[answerFrame f c (standingData s f c x)], rfl⟩

theorem replyStanding_onlyStarts (s : State) (f : RxFrame) (c : Code) (x : Nat) : OnlyStarts s (replyStanding s f c x) :=
  .refl s

/-- A hand-off changes a pump set at most by starting it. -/
theorem runTask_onlyStarts (t : Task) (s : State) : OnlyStarts s (runTask t s) := by
  cases t
  case allocate => exact allocate_onlyStarts s
  case leave h => exact takeLeave_onlyStarts s h
  case reclass h => exact takeReclass_onlyStarts s h
  case answer f c x => exact replyStanding_onlyStarts s f c x
  all_goals exact .of_ports (by simp [runTask])

/-- A hand-off changes the deck link at most by sending an answer. -/
theorem runTask_onlySends (t : Task) (s : State) : OnlySends s (runTask t s) := by
  cases t
  case allocate | leave | reclass => exact ⟨[], by simp [runTask]⟩
  case answer f c x => exact replyStanding_onlySends s f c x
  all_goals exact .of_ports (by simp [runTask])

theorem drain_onlyStarts (n : Nat) (s : State) : OnlyStarts s (drain n s) := by
  induction n generalizing s with
  | zero => exact .refl s
  | succ n ih =>
    simp only [drain]
    split
    · exact .refl s
    · rename_i t ts _
      exact .trans (t := { s with agenda := ts }) ⟨fun _ => .inl rfl, rfl⟩ (.trans (runTask_onlyStarts t _) (ih _))

theorem drain_onlySends (n : Nat) (s : State) : OnlySends s (drain n s) := by
  induction n generalizing s with
  | zero => exact .refl s
  | succ n ih =>
    simp only [drain]
    split
    · exact .refl s
    · rename_i t ts _
      exact .trans (t := { s with agenda := ts }) ⟨[], by simp⟩ (.trans (runTask_onlySends t _) (ih _))

theorem settle_onlyStarts (s : State) : OnlyStarts s (settle s) := drain_onlyStarts _ s

theorem settle_onlySends (s : State) : OnlySends s (settle s) := drain_onlySends _ s

end Sys2Proof.Machine
end

