-- ==== Sys2Proof/Laws/Ops.lean ====
section
/-!
SUPPORT. Laws/Ops.lean: what each shared operation can do, said once: the outcome of an event, the taking of a frame, the
hand-offs, an allocation on empty collections, a rejudging, and the take-ups that find nothing waiting.
-/

namespace Sys2Proof.Machine
open Sys2Proof Sys2Proof.Safety

/-! ### Hand-offs -/

theorem drain_nil (n : Nat) {s : State} (h : s.agenda = []) : drain n s = s := by
  cases n with
  | zero => rfl
  | succ n => simp [drain, h]

theorem drain_cons (n : Nat) {s : State} {t : Task} {ts : List Task} (h : s.agenda = t :: ts) :
    drain (n + 1) s = drain n (runTask t { s with agenda := ts }) := by
  simp [drain, h]

theorem settle_nil {s : State} (h : s.agenda = []) : settle s = s := drain_nil _ h

/-! ### Outcomes -/

theorem event_reset {f : State → State} {s : State} (h : s.inReset = true) : event f s = .next s := by simp [event, h]

theorem event_running {f : State → State} {s : State} (h : s.inReset = false) : event f s = .next (settle (f s)) := by
  simp [event, h]

theorem quiet_running {f : State → State} {s : State} (h : s.inReset = false) : quiet f s = .next (f s) := by
  simp [quiet, h]

/-! ### Taking a frame -/

theorem takeable_inReset {s : State} {f : RxFrame} (h : takeable s = some f) : s.inReset = false := by
  simp only [takeable] at h
  split at h
  · cases h
  · simp_all

theorem takeable_head {s : State} {f : RxFrame} (h : takeable s = some f) : s.link.rx.head? = some f := by
  simp only [takeable] at h
  split at h
  · cases h
  · exact h

/-- A frame that is taken goes to its owner, on the part less that frame. -/
theorem taking_offered {k : Nat} {s : State} {f : RxFrame} {isIt : RxFrame → Bool} {owner : RxFrame → State → State}
    (h : Offers k s f) (hi : isIt f = true) : taking isIt owner s = owner f (popped s) := by
  obtain ⟨ht, -, ho, -⟩ := h
  have : ((popped s).station f.station).outstanding = none := ho
  simp [taking, ht, hi, this]

/-- A command that takes nothing leaves the part as it is. -/
theorem taking_none {s : State} {isIt : RxFrame → Bool} {owner : RxFrame → State → State}
    (h : ∀ f, takeable s = some f → isIt f = false) : taking isIt owner s = s := by
  simp only [taking]
  split
  · rfl
  · rename_i f hf
    simp [h f hf]

/-! ### Allocation -/

/-- An allocation on empty collections changes nothing but the reduction timer. -/
theorem allocate_empty {s : State} (hp : s.arbiter.pending = []) (hg : s.arbiter.granted = []) :
    allocate s = { s with arbiter := { s.arbiter with reductionTimer := 0, reductionSet := none } } := by
  have hr : ∀ u : State, u.arbiter.pending = [] → u.arbiter.granted = [] → reductionFor u = none := by
    intro u h1 h2
    simp only [reductionFor, Arbiter.isEmpty, h1, h2]
    split <;> simp
  simp only [allocate, hp, hg, capacityShed, grantScan, withShares, outcomeTasks, List.length_nil, Nat.add_zero, List.map_nil,
    List.flatMap_nil, List.append_nil, List.isEmpty_nil, Bool.and_self, if_true]
  simp [startDecision, syncReduction, hr, State.push]

/-- The leaving of the one entry that stands changes nothing but the Arbiter, and leaves it empty; where the hatch has no entry
nothing changes at all. -/
theorem takeLeave_only {s : State} {h : Hatch} (ho : OnlyEntryOf s h) :
    NoEntry (takeLeave s h) ∧ takeLeave s h = { s with arbiter := (takeLeave s h).arbiter } := by
  obtain ⟨h1, h2⟩ := ho
  have e1 : s.arbiter.pending.filter (fun e => e.hatch != h) = [] := by
    simp only [List.filter_eq_nil_iff]; intro e he; simp [h1 e he]
  have e2 : s.arbiter.granted.filter (fun g => g.entry.hatch != h) = [] := by
    simp only [List.filter_eq_nil_iff]; intro g hg; simp [h2 g hg]
  by_cases hh : s.arbiter.has h
  · simp only [takeLeave, hh, e1, e2, if_true]
    rw [allocate_empty rfl rfl]
    exact ⟨⟨rfl, rfl⟩, rfl⟩
  · simp only [Arbiter.has, Bool.or_eq_true, List.any_eq_true, decide_eq_true_eq, not_or, not_exists, not_and] at hh
    have p0 : s.arbiter.pending = [] := by
      cases hp : s.arbiter.pending with
      | nil => rfl
      | cons e es => exact absurd (h1 e (by simp [hp])) (hh.1 e (by simp [hp]))
    have g0 : s.arbiter.granted = [] := by
      cases hp : s.arbiter.granted with
      | nil => rfl
      | cons e es => exact absurd (h2 e (by simp [hp])) (hh.2 e (by simp [hp]))
    simp [takeLeave, Arbiter.has, p0, g0, NoEntry]

/-! ### Verdicts -/

theorem State.updTable_self (s : State) (h : Hatch) :
    { s with table := { s.table with
      verdict := s.table.verdict.set h (s.table.verdict.get h)
      reason := s.table.reason.set h (s.table.reason.get h) } } = s := by simp

/-- Rejudging a hatch that carries no mark decides its verdict and reason and does nothing else. -/
theorem rejudge_unmarked {s : State} {h : Hatch} (hm : (s.ctx h).mark = false) : rejudge s h = judged s h := by
  simp only [rejudge]
  split
  · rename_i hv
    simp only [Bool.and_eq_true, decide_eq_true_eq] at hv
    simp [judged, hv]
  · have : (({ s with table := { s.table with
        verdict := s.table.verdict.set h (judge s h).1, reason := s.table.reason.set h (judge s h).2 } } : State).ctx h).mark
        = false := hm
    split
    · simp [clearMark, this, judged]
    · rfl

/-- Rejudging into a verdict that is not secured decides the verdict and reason and does nothing else. -/
theorem rejudge_unsecured {s : State} {h : Hatch} (hv : (judge s h).1.isSecured = false) : rejudge s h = judged s h := by
  simp only [rejudge]
  split
  · rename_i hv
    simp only [Bool.and_eq_true, decide_eq_true_eq] at hv
    simp [judged, hv]
  · simp [hv, judged]

/-- A hatch that is not CLOSED is not secured (R16). -/
theorem judge_not_closed {s : State} {h : Hatch} (hc : (s.ctx h).state ≠ .closed) : (judge s h).1.isSecured = false := by
  simp only [judge]
  split
  · rfl
  · rw [if_pos (by simpa [State.ctx] using hc)]; rfl

/-- Entering a state other than CLOSED decides the verdict and does nothing else. -/
theorem enterState_not_closed {s : State} {h : Hatch} {st : HatchState} {c : Option HeldCause} {n : Option NextState}
    (hs : st ≠ .closed) :
    enterState s h st c n = judged (s.updCtx h fun x => { x with state := st, held := c, next := n }) h :=
  rejudge_unsecured (judge_not_closed (by simpa [State.ctx, State.updCtx, State.setCtx] using hs))

/-! ### Take-ups that find nothing waiting -/

theorem squallTry_unmarked {s : State} {h : Hatch} (hm : (s.ctx h).mark = false) : squallTry s h = s := by
  simp [squallTry, squallPossible, hm]

theorem reclampTest_nothing {s : State} {h : Hatch} (hr : (reclampSet s h).isEmpty = true) : reclampTest s h = s := by
  simp [reclampTest, reclampPossible, hr]

end Sys2Proof.Machine
end

