-- ==== Sys2Proof/Tests/Slice0.lean ====
section
/-!
SUPPORT. Tests/Slice0.lean: the author's own tests: the WellFormed smoke tests, small tests from the manual's worked examples,
and for each statement of Certificates/Slice0 that has hypotheses a witness: a concrete part and operands that meet them.
-/

namespace Sys2Proof.Tests
open Sys2Proof Sys2Proof.Machine Sys2Proof.Safety

set_option Elab.async false

/-! ### Parts to test on -/

/-- A panel at a position with a jack verdict. -/
def panelAt (mm : Nat) (jack : JackVerdict) : PanelSense := ⟨some mm, [mm], 0, 0, [], some 0, [], jack⟩

/-- A line that is ONLINE, both panels alike. -/
def lineAt (mm : Nat) (jack : JackVerdict) : Junction := ⟨.online, 0, 0, 0, ⟨panelAt mm jack, panelAt mm jack⟩, false, none⟩

/-- A hatch in a state, without step or mark. -/
def inState (st : HatchState) : HatchCtx := ⟨st, none, 0, none, none, none, false⟩

/-- A part with a VALID image and no cleat, every hatch CLOSED, both panels LOWERED in the closed band. -/
def base : State :=
  { State.reset with
    store := { State.reset.store with image := .valid }
    hatches := Tbl.fill 9 (inState .closed)
    junctions := Tbl.fill 9 (lineAt 5 .lowered) }

/-- The part with a frame of station `n` at the head of its FIFO. -/
def asked (s : State) (n : StationId) (bs : List Byte) : State :=
  { s with link := { s.link with rx := [⟨n, eightBytes bs⟩] } }

/-- That frame. -/
def frame (n : StationId) (bs : List Byte) : RxFrame := ⟨n, eightBytes bs⟩

/-- The part with a hatch in a state, its panels at a position with a jack verdict. -/
def placed (s : State) (h : Hatch) (st : HatchState) (mm : Nat) (jack : JackVerdict) : State :=
  { s with hatches := s.hatches.set h (inState st), junctions := s.junctions.set h (lineAt mm jack) }

/-- The Arbiter with the one entry of a hatch, granted. -/
def grantedTo (s : State) (h : Hatch) (t : StepCtx) : State :=
  { s with
    hatches := s.hatches.upd h fun c => { c with step := some t }
    arbiter := { s.arbiter with granted := [⟨⟨h, .step t.name, t.cls, 60, 40, 1, false⟩, ⟨40, none⟩⟩], counter := 1 } }

/-- A step that is ACTIVE. -/
def activeStep (name : StepName) : StepCtx := { joined name .normal .active with elapsed := 1, started := true, grant := some ⟨40, none⟩ }

/-- The part with a channel record replaced. -/
def withChannel (s : State) (h : Hatch) (c : Channel) (f : ChannelRec → ChannelRec) : State :=
  s.setChannel h c (f (s.channel h c))

/-- A cleat record IN_SERVICE. -/
def cleatRec (manual : Bool) (v : CleatVerdict) : CleatRec :=
  ⟨manual, !manual, .inService, [], v, none, none, 0, 0, .no, false⟩

/-- A hold entry of a station over a scope. -/
def entry (id : Nat) (owner : StationId) (kind : HoldKind) (scope : BitVec 9) (count : Nat) : HoldEntry :=
  ⟨id, owner, kind, scope, none, count, false, 0⟩

def held (s : State) (es : List HoldEntry) (counter : Nat) : State := { s with holds := ⟨es, counter⟩ }

/-- The state a command answers with. -/
def after (c : Instr) (s : State) : State :=
  match exec c s with
  | .next t => t
  | .fault _ | .refused _ => s

/-- The code of the last answer sent. -/
def lastCode (s : State) : Nat :=
  match s.link.tx.getLast? with
  | some x => (x.data.get 2).toNat
  | none => 255

/-! ### WellFormed refuses what cannot be given -/

theorem test_wellFormed_frame : (Instr.deckFrameArrival ⟨false, false, 0x205, [1, 2]⟩).wellFormed = true := by decide

theorem test_wellFormed_refuses_identifier :
    (Instr.deckFrameArrival ⟨false, false, 0x800, []⟩).wellFormed = false ∧
      (Instr.deckFrameArrival ⟨true, false, 2 ^ 29, []⟩).wellFormed = false := by decide

theorem test_wellFormed_refuses_nine_bytes :
    (Instr.deckFrameArrival ⟨false, false, 0x205, List.replicate 9 0⟩).wellFormed = false := by decide

theorem test_wellFormed_refuses_remote_data :
    (Instr.deckFrameArrival ⟨false, true, 0x205, [0]⟩).wellFormed = false := by decide

theorem test_wellFormed_refuses_wide_value :
    (Instr.imageReadEnd (Image.default.withItem 12 0 32768) true).wellFormed = false ∧
      (Instr.imageReadEnd (Image.default.withItem 12 0 32767) true).wellFormed = true := by decide +kernel

/-! ### The manual's own numbers -/

/-- R142: the four example codes, and the two clamped ones. -/
theorem test_scaled_examples :
    scaled 0 4000 1520 = 900 ∧ scaled (-20) 120 2400 = 50 ∧ scaled (-200) 200 2480 = 10 ∧ scaled 0 600 1867 = 200 ∧
      scaled (-200) 200 760 = -200 ∧ scaled 0 600 4050 = 600 := by decide

/-- R110: a roll channel at applied 50, 500 and 1000 has duty 192, 575 and 1000. -/
theorem test_duty_examples :
    let duty := dutyOf base.params.offset true
    duty 50 = 192 ∧ duty 500 = 575 ∧ duty 1000 = 1000 ∧ duty 0 = 0 := by decide +kernel

/-- R115: a new duty offset acts at the next drive update, not before it. -/
theorem test_offset_waits_for_update :
    let s := withChannel base 0 .rollPort fun r => { r with target := ⟨.a, 500⟩, working := some .a, applied := 500, duty := 575 }
    let t := { s with store := { s.store with copy := s.store.copy.withItem 28 0 200 } }
    t.driverDuty 0 .rollPort = 575 ∧ (after (.driveUpdate 0 .rollPort) t).driverDuty 0 .rollPort = 600 := by decide +kernel

/-- R23: a kept ABSENT part with a confirmation does not agree with an ABSENT position. -/
theorem test_absent_confirmation_disagrees :
    (⟨none, some ⟨true, 3, 0⟩, none, 0⟩ : Kept).agrees none = false ∧ (⟨none, none, none, 0⟩ : Kept).agrees none = true := by
  decide

/-- R193: the poll of a scan is one byte, the number of the hatch. -/
theorem test_scan_polls : ((after (.scan 8) base).junctions.get 8).poll = some 9 := by decide +kernel

/-- R165, R171: a station that looks at its own record sees its LOOK, kind 2 with its tag, as outstanding. -/
theorem test_look_own_station :
    (after .lookStation (asked base 0 [2, 41, 5, 0, 0, 0])).link.tx.getLast?.map (fun x => (x.data.get 6, x.data.get 7)) =
      some (2, 41) := by decide +kernel

/-- R190: an ACK_TRIP that names no hatch carries its number and zeros. -/
theorem test_ack_trip_ten :
    (after .ackTrip (asked { base with stops := { base.stops with estopLatch := true } } 0 [13, 9, 10])).link.tx.getLast?.map
      (fun x => x.data.items.drop 2) = some [6, 10, 0, 0, 0, 0] := by decide +kernel

/-- R94: the derate at 5, 10, 18, 20, 29 and 30 degrees, and with no value. -/
theorem test_derate_examples :
    let d (t : Option Int) :=
      derate { base with analog := { base.analog with temperature := { base.analog.temperature with value := t } } }
    d (some 5) = 500 ∧ d (some 10) = 500 ∧ d (some 18) = 700 ∧ d (some 20) = 750 ∧ d (some 29) = 975 ∧
      d (some 30) = 1000 ∧ d none = 500 := by decide +kernel

/-- R28: the counter at 254 with id 255 held and id 1 held gives id 2. -/
theorem test_next_id_wraps : nextId ⟨[entry 255 0 .crane 1 1, entry 1 0 .crane 2 1], 254⟩ = 2 := by decide +kernel

/-- R1: cleat id 126 is position 30 of H4, in its CROSS group. -/
theorem test_cleat_place : cleatHatch 126 = 3 ∧ cleatGroup 126 = .cross ∧ cleatGroup 109 = .port ∧ cleatGroup 110 = .stbd := by
  decide

/-- R193: the CRC-8 over no bytes is its starting value, and over one zero byte 0xF3 (by hand: 0xFF through eight shifts). -/
theorem test_crc8 : crc8 [] = 0xFF ∧ crc8 [0] = 0xF3 := by decide

/-- R105, R106, worked allocation 4.6: A 250 with ROLL_IN (240/120) and ENGAGE (60/40) gives shares 197 and 52 and a roll command
of 820; with a third entry (80/60) the shares are 142, 43 and 63. -/
theorem test_allocation_example :
    let e (h : Hatch) (d : StepName) (c : Cls) (n m k : Nat) : Granted := ⟨⟨h, .step d, c, n, m, k, false⟩, ⟨0, none⟩⟩
    let roll := e 2 .rollIn .normal 240 120 1
    let engage := e 4 .engage .secure 60 40 2
    let lift := e 6 .lift .normal 80 60 3
    (withShares 250 [roll, engage]).map (·.grant) = [⟨197, some 820⟩, ⟨52, none⟩] ∧
      (withShares 250 [roll, engage, lift]).map (·.grant.share) = [142, 43, 63] := by decide +kernel

/-! ### Small tests of commands -/

/-- R9 row 4, R12 row 4: a slot without a cleat is an UNKNOWN_ITEM. -/
theorem test_confirm_absent_slot : lastCode (after .confirmCleat (asked base 5 [9, 1, 0, 126, 0])) = 6 := by decide +kernel

/-- R34 row 3: the image is not VALID, so a placement is NOT_READY. -/
theorem test_place_not_ready : lastCode (after .placeHold (asked State.reset 0 [7, 1, 0, 0, 1, 0])) = 18 := by decide +kernel

/-- R164: a station with an outstanding request is answered BUSY. -/
theorem test_busy_while_outstanding :
    lastCode (after .lookStation (asked (base.setStation 13 ⟨true, 0, some ⟨16, 40⟩⟩) 13 [2, 41, 5, 0, 0, 3])) = 9 := by
  decide +kernel

/-- R167: a frame is not taken while sixteen answers wait. -/
theorem test_full_list_takes_nothing :
    let s := asked base 0 [1, 7]
    let full := { s with link := { s.link with tx := List.replicate 16 ⟨0x280, eightBytes []⟩ } }
    after .presence full = full := by decide +kernel

/-- R136: two LIFTED samples keep the verdict, the third makes it LIFTED. -/
theorem test_jack_three_samples :
    let p := (panelAt 5 .lowered).withJack ⟨true, false⟩
    (p.withJack ⟨true, false⟩).jack = .lowered ∧ ((p.withJack ⟨true, false⟩).withJack ⟨true, false⟩).jack = .lifted := by decide

/-- R138: candidates 100, 130 and 150 agree; the newest is the position and the speed is 500 mm/s. -/
theorem test_candidates_recover :
    let p : PanelSense := ⟨none, [], 0, 0, [130, 100], none, [], .lowered⟩
    (p.withPosition 150).position = some 150 ∧ (p.withPosition 150).speed = some 500 := by decide

/-- R116: a mismatch of a new class starts its timer at 20 ms. -/
theorem test_mismatch_class_change :
    ({ ChannelRec.reset (some .a) with mismatch := .onWithoutCurrent, mismatchTimer := 160 } : ChannelRec).checked.mismatchTimer
      = 20 := by decide

/-- R181 row 5: a deadtime of 505 ms is no multiple of 10. -/
theorem test_param_deadtime_multiple :
    lastCode (after (.setParam true) (asked base 13 [16, 1, 27, 0, 0, 1, 249])) = 7 := by decide +kernel

/-- R85 row 2: there is no pump set 4. -/
theorem test_ack_pump_four : lastCode (after .ackPump (asked base 0 [14, 1, 4])) = 6 := by decide +kernel

/-! ### Witnesses: reset, start-up and the deck link -/

theorem witness_FrontCommandRuns : base.pending = [] := rfl

theorem witness_ResetSilencesOutputs : (9 : Nat) < 10 ∧ (∀ us, ResetSource.resetN 10 = .resetN us → 10 ≤ us) ∧
    ∀ us, ResetSource.supplyFell true = .resetN us → 10 ≤ us :=
  ⟨by decide, fun us h => by cases h; decide, fun us h => by cases h⟩

theorem witness_StartUpTakesResetValues :
    let s := { base with inReset := true, retention := { base.retention with entries := [entry 7 4 .crane 8 1], counter := 7 } }
    let t := { s with retention := { s.retention with checkOk := false } }
    s.inReset = true ∧ s.retention.valid = true ∧ t.inReset = true ∧ t.retention.valid = false := by decide +kernel

theorem witness_ImageReadBuildsRecords :
    Running State.reset ∧ State.reset.store.image = .reading ∧ State.reset.store.memoryFailing = false ∧
      Image.default.inRange = true ∧ Image.default.sound = true := ⟨⟨rfl, rfl⟩, rfl, rfl, by decide +kernel, by decide +kernel⟩

theorem witness_ImageFailureLeavesDefaults :
    let failing := { State.reset with store := { State.reset.store with memoryFailing := true } }
    (Running State.reset ∧ State.reset.store.image = .reading) ∧
      (Running failing ∧ failing.store.image = .reading ∧ failing.store.memoryFailing = true) ∧
      (Image.default.withItem 12 0 201).inRange = false ∧ (Image.default.withItem 21 0 600).sound = false :=
  ⟨⟨⟨rfl, rfl⟩, rfl⟩, ⟨⟨rfl, rfl⟩, rfl, rfl⟩, by decide +kernel, by decide +kernel⟩

theorem witness_FrameArrivalJoinsFifo :
    (base.inReset = false ∧ (13 : StationId).val ≤ 13 ∧ (List.replicate 8 (0 : Byte)).length = 8) ∧
      (let f : CanFrame := ⟨true, false, 0x200, []⟩; f.extended = true) ∧
      (let f : CanFrame := ⟨false, true, 0x200, []⟩; f.remote = true) ∧
      (let f : CanFrame := ⟨false, false, 0x200, List.replicate 7 0⟩; f.data.length ≠ 8) ∧
      (let f : CanFrame := ⟨false, false, 0x1FF, List.replicate 8 0⟩; f.ident < 0x200) ∧
      (let f : CanFrame := ⟨false, false, 0x20E, List.replicate 8 0⟩; 0x20D < f.ident) := by decide

theorem witness_SilenceMakesStationAbsent :
    let s := base.setStation 13 ⟨true, 49, none⟩
    s.inReset = false ∧ (s.station 13).present = true := by decide +kernel

theorem witness_LinkPortAnswersItself :
    let s (k : Byte) := asked base 13 [k, 9]
    (takeable (s 0) = some (frame 13 [0, 9]) ∧ (frame 13 [0, 9]).kind = 0) ∧
      (takeable (s 17) = some (frame 13 [17, 9]) ∧ 16 < (frame 13 [17, 9]).kind) ∧
      Offers 1 (s 1) (frame 13 [1, 9]) := by unfold Offers; decide +kernel

theorem witness_SentFrameLeavesList :
    let s := { base with link := { base.link with tx := [shipFrame base] } }
    s.inReset = false ∧ s.link.tx = shipFrame base :: [] := ⟨rfl, rfl⟩

theorem witness_BroadcastCycleRebuilds : base.inReset = false ∧ base.holds.entries.length ≤ 255 := by decide +kernel

theorem witness_StepKeepsLinkBounds : LinkBounded (asked base 0 [1, 1]) := by unfold LinkBounded; decide +kernel

/-! ### Witnesses: LOOK and FIND -/

/-- A LOOK of the BRIDGE: class, part, segment, key bytes. -/
def look (c part seg k1 k2 k3 : Byte) : List Byte := [2, 9, c, part, seg, k1, k2, k3]

theorem witness_LookGivesRecordParts_cleat :
    let offers (b : List Byte) := Offers 2 (asked base 0 b) (frame 0 b) ∧ (frame 0 b).byte 2 = 0
    (offers (look 0 0 0 0 1 32) ∧ 287 < (frame 0 (look 0 0 0 0 1 32)).word 6) ∧
      (offers (look 0 0 0 0 1 31) ∧ (frame 0 (look 0 0 0 0 1 31)).word 6 = (287 : CleatId).val ∧
        (frame 0 (look 0 0 0 0 1 31)).byte 3 = 0) ∧
      (offers (look 0 1 0 0 1 31) ∧ (frame 0 (look 0 1 0 0 1 31)).byte 3 = 1) ∧
      (offers (look 0 2 0 0 1 31) ∧ (frame 0 (look 0 2 0 0 1 31)).byte 3 = 2) ∧
      (offers (look 0 3 0 0 1 31) ∧ (frame 0 (look 0 3 0 0 1 31)).byte 3 = 3) ∧
      (offers (look 0 4 0 0 1 31) ∧ 3 < (frame 0 (look 0 4 0 0 1 31)).byte 3) := by unfold Offers; decide +kernel

theorem witness_LookGivesRecordParts_hatch :
    let offers (b : List Byte) := Offers 2 (asked base 0 b) (frame 0 b) ∧ (frame 0 b).byte 2 = 2
    (offers (look 2 0 0 0 0 0) ∧ (frame 0 (look 2 0 0 0 0 0)).byte 5 = 0) ∧
      (offers (look 2 0 0 10 0 0) ∧ 9 < (frame 0 (look 2 0 0 10 0 0)).byte 5) ∧
      (offers (look 2 0 0 9 0 0) ∧ (frame 0 (look 2 0 0 9 0 0)).byte 5 = (8 : Hatch).val + 1 ∧
        (frame 0 (look 2 0 0 9 0 0)).byte 3 = 0) ∧
      (offers (look 2 1 0 9 0 0) ∧ (frame 0 (look 2 1 0 9 0 0)).byte 3 = 1) ∧
      (offers (look 2 2 0 9 0 0) ∧ 1 < (frame 0 (look 2 2 0 9 0 0)).byte 3) := by unfold Offers; decide +kernel

theorem witness_LookGivesWholeRecords_hold :
    let s := held base [entry 7 0 .crane 1 1] 7
    let offers (b : List Byte) := Offers 2 (asked s 0 b) (frame 0 b) ∧ (frame 0 b).byte 2 = 1
    (offers (look 1 0 0 0 48 0) ∧ (frame 0 (look 1 0 0 0 48 0)).byte 5 = 0 ∧ 47 < (frame 0 (look 1 0 0 0 48 0)).byte 6) ∧
      (offers (look 1 0 0 0 47 0) ∧ (frame 0 (look 1 0 0 0 47 0)).byte 6 ≤ 47 ∧ s.holds.entries[47]? = none) ∧
      (offers (look 1 0 0 0 0 0) ∧ s.holds.entries[(frame 0 (look 1 0 0 0 0 0)).byte 6]? = some (entry 7 0 .crane 1 1)) ∧
      (offers (look 1 0 0 1 6 0) ∧ (frame 0 (look 1 0 0 1 6 0)).byte 5 = 1 ∧ ∀ e ∈ s.holds.entries, e.id ≠ 6) ∧
      (offers (look 1 0 0 1 7 0) ∧ s.holds.entries.findIdx? (fun x => decide (x.id = 7)) = some 0) := by
  unfold Offers; decide +kernel

theorem witness_LookGivesWholeRecords_supply :
    let offers (c : Nat) (b : List Byte) := Offers 2 (asked base 0 b) (frame 0 b) ∧ (frame 0 b).byte 2 = c
    let key (b : List Byte) := (frame 0 b).byte 5
    (offers 3 (look 3 0 0 0 0 0) ∧ key (look 3 0 0 0 0 0) = 0) ∧
      (offers 3 (look 3 0 0 3 0 0) ∧ key (look 3 0 0 3 0 0) = (2 : PumpId).val + 1) ∧
      (offers 3 (look 3 0 0 4 0 0) ∧ 3 < key (look 3 0 0 4 0 0)) := by unfold Offers; decide +kernel

theorem witness_LookGivesWholeRecords_sensing :
    let offers (c : Nat) (b : List Byte) := Offers 2 (asked base 0 b) (frame 0 b) ∧ (frame 0 b).byte 2 = c
    let key (b : List Byte) := (frame 0 b).byte 5
    (offers 4 (look 4 0 0 9 0 0) ∧ key (look 4 0 0 9 0 0) = (8 : Hatch).val + 1) ∧
      (offers 4 (look 4 0 0 10 0 0) ∧ key (look 4 0 0 10 0 0) = 10) ∧
      (offers 4 (look 4 0 0 11 0 0) ∧ key (look 4 0 0 11 0 0) = 11) ∧
      (offers 4 (look 4 0 0 12 0 0) ∧ key (look 4 0 0 12 0 0) = 12) := by unfold Offers; decide +kernel

theorem witness_LookGivesWholeRecords_sensing_ends :
    let offers (c : Nat) (b : List Byte) := Offers 2 (asked base 0 b) (frame 0 b) ∧ (frame 0 b).byte 2 = c
    let key (b : List Byte) := (frame 0 b).byte 5
    (offers 4 (look 4 0 0 13 0 0) ∧ key (look 4 0 0 13 0 0) = 13) ∧
      (offers 4 (look 4 0 0 0 0 0) ∧ key (look 4 0 0 0 0 0) = 0) ∧
      (offers 4 (look 4 0 0 14 0 0) ∧ 13 < key (look 4 0 0 14 0 0)) := by unfold Offers; decide +kernel

theorem witness_LookGivesWholeRecords_station_param :
    let offers (c : Nat) (b : List Byte) := Offers 2 (asked base 0 b) (frame 0 b) ∧ (frame 0 b).byte 2 = c
    let key (b : List Byte) := (frame 0 b).byte 5
    (offers 5 (look 5 0 0 15 0 0) ∧ key (look 5 0 0 15 0 0) = (15 : StationId).val) ∧
      (offers 5 (look 5 0 0 16 0 0) ∧ 15 < key (look 5 0 0 16 0 0)) ∧
      (offers 6 (look 6 0 0 5 1 31) ∧ itemExists (key (look 6 0 0 5 1 31)) ((frame 0 (look 6 0 0 5 1 31)).word 6) = true) ∧
      (offers 6 (look 6 0 0 5 1 32) ∧ itemExists (key (look 6 0 0 5 1 32)) ((frame 0 (look 6 0 0 5 1 32)).word 6) = false) := by
  unfold Offers; decide +kernel

theorem witness_FindGivesFirstMatch_cleat :
    let bytes : List Byte := [3, 9, 0, 1, 31, 2]
    let s := asked base 0 bytes
    let t := s.setSlot 287 (some { cleatRec false .engaged with service := .retired })
    let f := frame 0 bytes
    Offers 3 s f ∧ s.imageValid = true ∧ f.byte 2 = 0 ∧ f.word 3 ≤ 287 ∧ f.byte 5 ≤ 5 ∧
      (∀ id : CleatId, f.word 3 ≤ id.val → s.slot id = none) ∧
      Offers 3 t f ∧ t.imageValid = true ∧ (t.slot 287).isSome = true ∧
      ((t.slot 287).map fun r => r.matchesFilter (f.byte 5)) = some true := by unfold Offers; decide +kernel

theorem witness_FindGivesFirstMatch_hold :
    let bytes : List Byte := [3, 9, 1, 0, 0, 9]
    let s := asked (held base [entry 7 0 .crane 0x100 1] 7) 0 bytes
    let t := asked (held base [entry 7 0 .crane 1 1] 7) 0 bytes
    let f := frame 0 bytes
    Offers 3 s f ∧ s.imageValid = true ∧ f.byte 2 = 1 ∧ f.word 3 ≤ 47 ∧ f.byte 5 = (8 : Hatch).val + 1 ∧
      s.holds.entries[0]? = some (entry 7 0 .crane 0x100 1) ∧ (entry 7 0 .crane 0x100 1).covers 8 = true ∧
      Offers 3 t f ∧ t.imageValid = true ∧ ∀ e ∈ t.holds.entries, e.covers 8 = false := by unfold Offers; decide +kernel

/-! ### Witnesses: Hold List -/

theorem witness_StepKeepsHoldLaws : HoldsLawful (held base [entry 7 0 .crane 1 15, entry 255 0 .crane 2 1] 255) := by
  unfold HoldsLawful; decide +kernel

/-- BRIDGE places a LOCKOUT over a scope given as its two bytes. -/
def lockoutFrame (hi lo : Byte) : List Byte := [7, 9, 3, hi, lo, 0]

theorem witness_PlacementJoins :
    let s := asked base 0 (lockoutFrame 1 0)
    Places s (frame 0 (lockoutFrame 1 0)) .lockout none ∧
      NoMatch s 0 .lockout (frame 0 (lockoutFrame 1 0)).scope none ∧ s.holds.entries.length < 48 ∧
      (∀ h t, (s.ctx h).step = some t → (frame 0 (lockoutFrame 1 0)).scope.getLsbD h.val = false) ∧
      ∀ j, s.drive.jog = some j → (frame 0 (lockoutFrame 1 0)).scope.getLsbD j.hatch.val = false := by
  refine ⟨by unfold Places Offers; decide +kernel, by unfold NoMatch; decide +kernel, by decide +kernel, fun h t ht => ?_,
    fun j hj => by cases hj⟩
  have none_steps : ∀ h, ((asked base 0 (lockoutFrame 1 0)).ctx h).step = none := by decide +kernel
  exact absurd ((none_steps h).symm.trans ht) (by simp)

theorem witness_MatchingPlacementMerges :
    let f := frame 0 (lockoutFrame 1 255)
    let s (count : Nat) := asked (held base [entry 7 0 .lockout 0x1FF count] 7) 0 (lockoutFrame 1 255)
    (HoldsLawful (s 14) ∧ entry 7 0 .lockout 0x1FF 14 ∈ (s 14).holds.entries ∧ f.scope = 0x1FF ∧ Places (s 14) f .lockout none) ∧
      (HoldsLawful (s 15) ∧ entry 7 0 .lockout 0x1FF 15 ∈ (s 15).holds.entries ∧ Places (s 15) f .lockout none) := by
  unfold HoldsLawful Places Offers; decide +kernel

theorem witness_MatchingPlacementMerges_full :
    let s := asked (held base ((List.range 48).map fun k => entry (k + 1) 0 .crane (BitVec.ofNat 9 (k + 1)) 1) 48) 0 (lockoutFrame 0 1)
    let f := frame 0 (lockoutFrame 0 1)
    Places s f .lockout none ∧ NoMatch s f.station .lockout f.scope none ∧ 48 ≤ s.holds.entries.length := by
  unfold Places Offers NoMatch; decide +kernel

/-- H2 opening with an ACTIVE LIFT, its PORT jack channel driven. -/
def lifting : State :=
  withChannel (grantedTo (placed base 1 .opening 5 .lowered) 1 (activeStep .lift)) 1 .jackPort fun r =>
    { r with target := ⟨.a, 1000⟩, sequencerTarget := ⟨.a, 1000⟩, working := some .a, applied := 1000 }

theorem witness_PlacementStopsMotion :
    let s := asked lifting 0 (lockoutFrame 0 2)
    let f := frame 0 (lockoutFrame 0 2)
    (Places s f .lockout none ∧ NoMatch s f.station .lockout f.scope none) ∧ s.holds.entries.length < 48 ∧
      f.scope = BitVec.ofNat 9 (2 ^ (1 : Hatch).val) ∧ (s.ctx 1).step = some (activeStep .lift) ∧
      HoldKind.blocks .lockout (stepMotion (activeStep .lift).name) = true ∧ (s.ctx 1).state = .opening ∧
      OnlyEntryOf s 1 ∧ s.drive.jog = none ∧ (s.channel 1 .jackPort).applied ≠ 0 := by
  unfold Places Offers NoMatch OnlyEntryOf; decide +kernel

theorem witness_OwnerLiftLowersCount :
    let f := frame 1 [8, 9, 7]
    let s (n : Nat) := asked (held base [entry 7 1 .crane 1 n] 7) 1 [8, 9, 7]
    (HoldsLawful (s 2) ∧ Offers 8 (s 2) f ∧ (s 2).imageValid = true ∧ entry 7 1 .crane 1 2 ∈ (s 2).holds.entries) ∧
      (HoldsLawful (s 1) ∧ Offers 8 (s 1) f ∧ (s 1).imageValid = true ∧ entry 7 1 .crane 1 1 ∈ (s 1).holds.entries) ∧
      f.byte 2 = 7 ∧ roleOf f.station ≠ .monitor ∧ (entry 7 1 .crane 1 1).owner = f.station := by
  unfold HoldsLawful Offers; decide +kernel

theorem witness_OverrideLiftRemovesWhole :
    let f := frame 0 [8, 9, 7]
    let s (e : HoldEntry) := asked (held base [e] 7) 0 [8, 9, 7]
    let meets (e : HoldEntry) := HoldsLawful (s e) ∧ Offers 8 (s e) f ∧ (s e).imageValid = true ∧
      e ∈ (s e).holds.entries ∧ e.id = f.byte 2 ∧ e.owner ≠ f.station
    meets (entry 7 15 .restart 0x1FF 1) ∧ meets (entry 7 4 .crane 1 15) ∧ meets (entry 7 13 .lockout 1 1) := by
  unfold HoldsLawful Offers; decide +kernel

/-! ### Witnesses: Securing Table -/

/-- A manual cleat at the last slot of H9, confirmed by its LOCAL station or looked at by BRIDGE. -/
def withManual (s : State) : State := s.setSlot 287 (some (cleatRec true .noSensor))

theorem witness_ConfirmationReplacesPart :
    let bytes (b : Byte) : List Byte := [9, 9, 1, 31, b]
    let s (st : HatchState) (b : Byte) := asked (placed (withManual base) 8 st 5 .lowered) 10 (bytes b)
    let meets (st : HatchState) (b : Byte) := Offers 9 (s st b) (frame 10 (bytes b)) ∧ (s st b).imageValid = true ∧
      (frame 10 (bytes b)).word 2 = (287 : CleatId).val ∧ (frame 10 (bytes b)).byte 4 = b.toNat ∧
      (s st b).slot 287 = some (cleatRec true .noSensor) ∧ ((s st b).ctx (cleatHatch 287)).state = st ∧
      ((s st b).ctx (cleatHatch 287)).mark = false
    (meets .closed 0 ∧ meets .held 0 ∧ meets .closed 1 ∧ meets .opening 1) ∧
      (frame 10 (bytes 0)).station = localStation (cleatHatch 287) := by unfold Offers; decide +kernel

theorem witness_ServiceChangeResetsRecord :
    let bytes (b : Byte) : List Byte := [10, 9, 0, 0, b]
    let r := { cleatRec false .engaged with wanted := .waiting }
    let s (v : CleatRec) (st : HatchState) (b : Byte) := asked ((placed base 0 st 5 .lowered).setSlot 0 (some v)) 13 (bytes b)
    let meets (v : CleatRec) (st : HatchState) (b : Byte) := Offers 10 (s v st b) (frame 13 (bytes b)) ∧
      (s v st b).imageValid = true ∧ (frame 13 (bytes b)).word 2 = (0 : CleatId).val ∧ (s v st b).slot 0 = some v ∧
      ((s v st b).ctx 0).state = st ∧ ((s v st b).ctx 0).mark = false ∧ (s v st b).arbiter.has 0 = false
    meets r .opening 2 ∧ meets r .closed (BitVec.ofNat 8 (Service.code .inService)) ∧
      meets (cleatRec false .engaged) .closed (BitVec.ofNat 8 (Service.code .retired)) := by unfold Offers; decide +kernel

theorem no_records {s : State} (e : s.table.slots = Tbl.fill 288 none) (h : Hatch) : hatchRecords s h = [] := by
  simp [hatchRecords, e]

/-- The part with every verdict SECURED: no cleat is fitted, and every hatch is CLOSED on LOWERED panels. -/
def secured : State := { base with table := { base.table with verdict := Tbl.fill 9 .secured } }

theorem witness_StepKeepsVerdictsCurrent : VerdictsCurrent secured := by
  intro h
  have e := no_records (s := secured) rfl h
  unfold judge judgedUnverified firstFailing retiredCount
  rw [e]
  revert h
  decide +kernel

theorem witness_AllSecuredIsSound : VerdictsCurrent secured ∧ secured.allSecured = true :=
  ⟨witness_StepKeepsVerdictsCurrent, by decide +kernel⟩

theorem witness_StepKeepsRecordRanges : RecordsInRange base := by
  refine ⟨fun id r h => ?_, fun id => ?_, fun id k h => by cases h⟩
  · have : base.slot id = none := by simp [base, State.slot, State.reset]
    rw [this] at h; cases h
  · have : base.retention.cleats.get id = Kept.built := by simp [base, State.reset]
    simp [this, Kept.built]

/-! ### Witnesses: hatch sequences -/

/-- A flow of 40 at hand. -/
def withFlow (s : State) (a : Nat) : State := { s with supply := { s.supply with available := a } }

/-- A MOVE of H1 by its LOCAL station, the hatch in a state with its panels at a position. -/
def moveAsked (b : Byte) (st : HatchState) (mm : Nat) (j : JackVerdict) : State := asked (placed base 0 st mm j) 2 [4, 9, 1, b]

theorem witness_MoveQueuesStartStep_open :
    Moves (moveAsked 0 .closed 5 .lowered) (frame 2 [4, 9, 1, 0]) 0 true .lift ∧
      Moves (moveAsked 0 .held 5 .lifted) (frame 2 [4, 9, 1, 0]) 0 true .rollOut ∧
      (moveAsked 0 .closed 5 .lowered).supply.available < (moveAsked 0 .closed 5 .lowered).params.stepM .lift := by
  unfold Moves Offers NoEntry; decide +kernel

theorem witness_MoveQueuesStartStep_close :
    Moves (moveAsked 1 .open 7600 .lowered) (frame 2 [4, 9, 1, 1]) 0 false .unpark ∧
      Moves (moveAsked 1 .closed 5 .lowered) (frame 2 [4, 9, 1, 1]) 0 false .engage := by
  unfold Moves Offers NoEntry; decide +kernel

theorem witness_MoveWithFlowDrivesValves :
    let s := asked (withFlow (placed base 0 .open 7585 .lowered) 60) 2 [4, 9, 1, 1]
    Moves s (frame 2 [4, 9, 1, 1]) 0 false .unpark ∧ s.params.stepM .unpark ≤ s.supply.available ∧
      s.params.stepM .unpark ≤ s.params.stepN .unpark := by unfold Moves Offers NoEntry; decide +kernel

theorem witness_MoveWithFlowDrivesValves_from_closed :
    Moves (asked (withFlow (withManual base) 200) 0 [4, 9, 9, 0]) (frame 0 [4, 9, 9, 0]) 8 true .lift ∧
      Moves (asked (withFlow (base.setSlot 287 (some (cleatRec false .engaged))) 200) 0 [4, 9, 9, 0])
        (frame 0 [4, 9, 9, 0]) 8 true .release := by unfold Moves Offers NoEntry; decide +kernel

theorem witness_MoveWithFlowDrivesValves_from_held :
    Moves (asked (withFlow (placed base 8 .held 7600 .lifted) 200) 0 [4, 9, 9, 0]) (frame 0 [4, 9, 9, 0]) 8 true .park ∧
      Moves (asked (withFlow (placed base 8 .held 5 .lifted) 200) 0 [4, 9, 9, 1]) (frame 0 [4, 9, 9, 1]) 8 false .lower := by
  unfold Moves Offers NoEntry; decide +kernel

theorem witness_MoveRefusalsChangeNothing :
    let f := frame 0 [4, 9, 1, 0]
    let s := asked (placed base 0 .held 5 .lowered) 0 [4, 9, 1, 0]
    let meets (t : State) := Offers 4 t f ∧ t.imageValid = true ∧ sensingUsable t 0 = true
    (f.byte 2 = (0 : Hatch).val + 1 ∧ f.byte 3 = 0 ∧ roleOf f.station = .bridge ∧ roleOf (frame 11 []).station = .loader) ∧
      meets (asked (placed base 0 .fault 5 .lowered) 0 [4, 9, 1, 0]) ∧
      (meets { s with stops := { s.stops with estopLatch := true } } ∧
        { s with stops := { s.stops with estopLatch := true } }.tripped 0 = true) ∧
      (meets { s with hatches := s.hatches.upd 0 fun c => { c with mark := true } } ∧ s.tripped 0 = false) := by
  unfold Offers; decide +kernel

theorem witness_MoveRefusalsChangeNothing_blocked :
    let f := frame 0 [4, 9, 1, 0]
    let s := asked (held (placed base 0 .held 5 .lowered) [entry 7 0 .loader 1 1] 7) 0 [4, 9, 1, 0]
    let t := asked (placed base 0 .held 5 .unverified) 0 [4, 9, 1, 0]
    (Offers 4 s f ∧ s.imageValid = true ∧ sensingUsable s 0 = true ∧ s.tripped 0 = false ∧ (s.ctx 0).mark = false ∧
      jogOn s 0 = false ∧ handFastened s 0 = false ∧ openingStart s 0 = some .lift ∧ isBlocked s 0 (.step .lift) = true) ∧
      Offers 4 t f ∧ sensingUsable t 0 = false := by unfold Offers; decide +kernel

theorem witness_HaltStopsMotion :
    let f := frame 11 [5, 9, 2]
    let s := asked lifting 11 [5, 9, 2]
    let t := asked (grantedTo (placed base 1 .closing 5 .lowered) 1 (activeStep .engage)) 11 [5, 9, 2]
    let u := asked (placed base 1 .unknown 5 .lowered) 11 [5, 9, 2]
    let meets (s : State) := Offers 5 s f ∧ s.imageValid = true ∧ jogOn s 1 = false ∧ OnlyEntryOf s 1
    (f.byte 2 = (1 : Hatch).val + 1 ∧ roleOf f.station = .loader) ∧
      (meets s ∧ (s.ctx 1).state = .opening ∧ channelsAtRest s 1 = false) ∧
      (meets t ∧ (t.ctx 1).state = .closing ∧ channelsAtRest t 1 = true) ∧
      (meets u ∧ (u.ctx 1).state = .unknown ∧ (u.ctx 1).mark = false) := by unfold Offers OnlyEntryOf; decide +kernel

theorem witness_AcknowledgedFaultDerives :
    let f := frame 3 [6, 9, 2]
    let s (st : HatchState) (mm : Nat) (j : JackVerdict) := asked (placed base 1 st mm j) 3 [6, 9, 2]
    let meets (s : State) := Offers 6 s f ∧ s.imageValid = true
    (f.byte 2 = (1 : Hatch).val + 1 ∧ f.station = localStation 1) ∧ (meets (s .held 5 .lowered)) ∧
      (meets (s .fault 5 .switchFault) ∧ sensingUsable (s .fault 5 .switchFault) 1 = false) ∧
      (meets (s .fault 16 .lowered) ∧ sensingUsable (s .fault 16 .lowered) 1 = true ∧
        NothingWaits (s .fault 16 .lowered) 1) := by unfold Offers NothingWaits; decide +kernel

theorem witness_AcknowledgedFaultDerives_mismatch :
    (∀ c, ((asked (placed base 1 .fault 16 .lowered) 3 [6, 9, 2]).channel 1 c).mismatch = .none) ∧
      ((withChannel (asked (placed base 1 .fault 16 .lowered) 3 [6, 9, 2]) 1 .jackPort fun r =>
        { r with mismatch := .onWithoutCurrent }).channel 1 .jackPort).mismatch ≠ .none :=
  ⟨fun c => by cases c <;> decide +kernel, by decide +kernel⟩

/-- H3 opening with an ACTIVE ROLL_OUT, its PORT roll channel at an applied command, the panel at a speed. -/
def rolling (applied : Nat) (v : Int) : State :=
  let s := grantedTo (placed base 2 .opening 3000 .lifted) 2 (activeStep .rollOut)
  let s := withChannel s 2 .rollPort fun r => { r with working := some .a, applied := applied }
  s.setJunction 2 { lineAt 3000 .lifted with panels := ⟨{ panelAt 3000 .lifted with speed := some v }, panelAt 3000 .lifted⟩ }

theorem witness_StepFaults :
    let meets (s : State) := Running s ∧ (s.ctx 2).step = some (activeStep .rollOut) ∧ (s.ctx 2).state ≠ .fault ∧ OnlyEntryOf s 2
    (meets (rolling 300 (-19)) ∧ ((rolling 300 (-19)).panel 2 .port).speed = some (-19) ∧
        300 ≤ ((rolling 300 (-19)).channel 2 .rollPort).applied ∧ (19 : Int) < (rolling 300 (-19)).params.stallSpeed) ∧
      (meets (rolling 299 0) ∧ ((rolling 299 0).channel 2 .rollPort).applied < 300) ∧
      (meets (rolling 300 20) ∧ (rolling 300 20).params.stallSpeed ≤ 20) := by unfold Running OnlyEntryOf; decide +kernel

/-- H1 CLOSED with an ACTIVE RECLAMP that has taken one cleat. -/
def reclamping : State :=
  (grantedTo base 0 (activeStep .reclamp)).setSlot 31 (some { cleatRec false .released with wanted := .taken })

theorem witness_ReclampTimeoutEndsReclamp :
    (Running reclamping ∧ (reclamping.ctx 0).step = some (activeStep .reclamp) ∧ (reclamping.ctx 0).state = .closed ∧
      OnlyEntryOf reclamping 0) ∧
      ∀ id r, cleatHatch id = 0 → reclamping.slot id = some r → r.wanted ≠ .no →
        r.wanted = .taken ∧ r.service = .inService ∧ r.manual = false := by
  refine ⟨by unfold Running OnlyEntryOf; decide +kernel, fun id r _ h _ => ?_⟩
  have all : ∀ id, (reclamping.slot id).all
      (fun r => decide (r.wanted = .taken ∧ r.service = .inService ∧ r.manual = false)) = true := by decide +kernel
  have := all id
  rw [h] at this
  simpa using this

/-! ### Witnesses: squall closure -/

theorem witness_SquallMarksHatches :
    let f := frame 1 [11, 9]
    let stopping (s : State) : State :=
      { s with hatches := s.hatches.set 1 { inState .stopping with next := some (.held .halt) } }
    let s := stopping (placed (placed (asked secured 1 [11, 9]) 0 .unknown 5 .lowered) 8 .fault 5 .lowered)
    let waits (h : Hatch) : Prop := (s.ctx h).mark = true ∨ (s.ctx h).state = .unknown ∨ (s.ctx h).state = .fault ∨
      (s.ctx h).state = .stopping ∨ ((s.ctx h).state = .closed ∧ (s.table.verdict.get h).isSecured = true)
    Offers 11 s f ∧ s.imageValid = true ∧ roleOf f.station = .cargo ∧ (∀ h, waits h) ∧ roleOf (frame 13 []).station = .service := by
  unfold Offers; decide +kernel

theorem witness_CancelClearsMarks :
    let f := frame 0 [12, 9]
    let s := asked base 0 [12, 9]
    let t := { s with hatches := s.hatches.upd 8 fun c => { c with mark := true } }
    (Offers 12 s f ∧ s.imageValid = true ∧ roleOf f.station = .bridge ∧ ∀ h, (s.ctx h).mark = false) ∧
      Offers 12 t f ∧ t.imageValid = true ∧ (t.ctx 8).mark = true ∧
      ∀ h, (t.ctx h).mark = true → (t.ctx h).step = none ∧ (reclampSet t h).isEmpty = true := by unfold Offers; decide +kernel

/-! ### Witnesses: Valve Drive -/

/-- H3 opening, its PORT roll channel as given. -/
def rollAt (target : Target) (working : Option Dir) (applied deadtime : Nat) : State :=
  withChannel (placed base 2 .opening 3000 .lifted) 2 .rollPort fun r =>
    { r with target := target, working := working, applied := applied, deadtime := deadtime }

theorem witness_DriveUpdateMovesChannel :
    let held (s : State) := channelHeld s 2 .rollPort
    let r (s : State) := s.channel 2 .rollPort
    Running (rollAt ⟨.a, 0⟩ (some .a) 100 0) ∧ held (rollAt ⟨.a, 0⟩ (some .a) 100 0) = false ∧
      (r (rollAt ⟨.a, 0⟩ (some .a) 100 0)).mismatchTimer < 180 ∧
      (r (rollAt ⟨.a, 200⟩ (some .a) 199 0)).applied < 200 ∧ 200 ≤ (r (rollAt ⟨.a, 200⟩ (some .a) 200 0)).applied ∧
      (r (rollAt ⟨.a, 200⟩ (some .b) 101 0)).applied - base.params.rampDown = 1 ∧
      (r (rollAt ⟨.a, 200⟩ (some .b) 100 0)).applied - base.params.rampDown = 0 ∧
      (r (rollAt ⟨.a, 200⟩ none 0 0)).deadtime = 0 ∧ 0 < (r (rollAt ⟨.a, 200⟩ none 0 10)).deadtime ∧
      held { rollAt ⟨.a, 0⟩ none 0 0 with inReset := true } = true := by unfold Running; decide +kernel

theorem witness_DirectionsNeverSwap :
    let s := { rollAt ⟨.a, 200⟩ none 0 0 with pending := [.driveUpdate 2 .rollPort] }
    ∃ t, step s = .next t ∧ (t.channel 2 .rollPort).working = some .a := ⟨_, rfl, by decide +kernel⟩

/-- H2 lifting with its PORT jack channel at the limit of a mismatch. -/
def mismatched (m : Mismatch) (f : ChannelRec → ChannelRec) : State :=
  withChannel lifting 1 .jackPort fun r => f { r with mismatch := m, mismatchTimer := 180 }

theorem witness_CoilFaultsForceOff_open :
    let s := mismatched .onWithoutCurrent id
    let r := s.channel 1 .jackPort
    (Running s ∧ OnlyEntryOf s 1 ∧ (s.ctx 1).step ≠ none ∧ s.drive.jog = none ∧ (s.ctx 1).state = .opening) ∧
      r.mismatchTimer = 180 ∧ channelHeld s 1 .jackPort = false ∧ rollPanel? .jackPort = none ∧
      r.mismatch = .onWithoutCurrent ∧ 0 < r.target.command ∧ r.working = some r.target.dir ∧ r.applied = 1000 ∧
      r.sensed = none ∧ (s.ctx 1).state.isMoving = true := by unfold Running OnlyEntryOf; decide +kernel

theorem witness_CoilFaultsForceOff_stuck :
    let s := mismatched .currentWithoutOn fun r => { r with target := ⟨.a, 0⟩, working := none, applied := 0, sensed := some .b }
    let r := s.channel 1 .jackPort
    (Running s ∧ OnlyEntryOf s 1 ∧ (s.ctx 1).step ≠ none ∧ s.drive.jog = none ∧ (s.ctx 1).state ≠ .fault) ∧
      r.mismatchTimer = 180 ∧ r.mismatch = .currentWithoutOn ∧ r.applied = 0 ∧ r.working = none ∧ r.target.command = 0 ∧
      r.sensed ≠ none ∧ s.drive.cut.get 1 = false := by unfold Running OnlyEntryOf; decide +kernel

theorem witness_ChannelLinesWriteRecord :
    base.inReset = false ∧ (base.channel 8 .rollStbd).deadtime ≠ base.params.deadtime ∧
      ((withChannel base 8 .rollStbd fun r => { r with deadtime := 500 }).channel 8 .rollStbd).deadtime = base.params.deadtime := by
  decide +kernel

/-- SERVICE asks for a jog of H9's STBD roll channel in direction B. -/
def jogFrame (hi lo : Byte) : List Byte := [15, 9, 9, 1, 1, hi, lo]

theorem witness_JogStarts :
    let f := frame 13 (jogFrame 3 232)
    let s := asked (withFlow (placed base 8 .held 5 .lowered) 40) 13 (jogFrame 3 232)
    Offers 15 s f ∧ s.imageValid = true ∧ f.byte 2 = (8 : Hatch).val + 1 ∧ channelOf (f.byte 3) = some .rollStbd ∧
      dirOf (f.byte 4) = some .b ∧ roleOf f.station = .service ∧ f.word 5 = 1000 ∧ s.drive.jog = none ∧
      (s.ctx 8).state = .held ∧ s.tripped 8 = false ∧ s.vsupOn 8 = true := by unfold Offers; decide +kernel

theorem witness_JogStarts_channel :
    let s := asked (withFlow (placed base 8 .held 5 .lowered) 40) 13 (jogFrame 3 232)
    (s.channel 8 .rollStbd).coilFault = false ∧ (∀ p, rollPanel? .rollStbd = some p → (s.panel 8 p).position ≠ none) ∧
      isBlocked s 8 (.jog .rollStbd) = false ∧ NoEntry s ∧ 40 ≤ s.supply.available ∧ s.arbiter.counter < 65535 :=
  ⟨by decide +kernel, fun p h => by cases h; decide +kernel, by decide +kernel, ⟨rfl, rfl⟩, by decide, by decide⟩

/-- A jog of H9's STBD roll channel in a phase. -/
def jogging (phase : JogPhase) : State :=
  let s := { placed base 8 .held 3000 .lifted with drive := { base.drive with jog := some ⟨8, .rollStbd, .a, 300, phase, 10⟩ } }
  withChannel s 8 .rollStbd fun r => { r with jogMaster := decide (phase = .active), working := some .a, applied := 50 }

theorem witness_JogRenewalRewritesTarget :
    let f := frame 13 (jogFrame 0 1)
    let s (phase : JogPhase) := asked (jogging phase) 13 (jogFrame 0 1)
    (Offers 15 (s .active) f ∧ (s .active).imageValid = true ∧ (s .active).drive.jog = some ⟨8, .rollStbd, .a, 300, .active, 10⟩ ∧
        ((s .active).channel 8 .rollStbd).jogMaster = true) ∧
      (Offers 15 (s .queued) f ∧ (s .queued).drive.jog = some ⟨8, .rollStbd, .a, 300, .queued, 10⟩) ∧
      f.byte 2 = (8 : Hatch).val + 1 ∧ channelOf (f.byte 3) = some .rollStbd ∧ dirOf (f.byte 4) = some .b ∧
      roleOf f.station = .service ∧ f.word 5 = 1 := by unfold Offers; decide +kernel

theorem witness_JogEnds :
    let s := jogging .queued
    let q := { s with arbiter := { s.arbiter with pending := [⟨8, .jog .rollStbd, .normal, 40, 40, 1, false⟩] } }
    (Running (jogging .active) ∧ (jogging .active).drive.jog = some ⟨8, .rollStbd, .a, 300, .active, 10⟩ ∧
        ((jogging .active).channel 8 .rollStbd).jogMaster = true ∧ 0 < ((jogging .active).channel 8 .rollStbd).applied) ∧
      (Running q ∧ q.drive.jog = some ⟨8, .rollStbd, .a, 300, .queued, 10⟩ ∧
        (q.channel 8 .rollStbd).jogMaster = decide (JogPhase.queued = .active) ∧ OnlyEntryOf q 8 ∧ NothingWaits q 8) := by
  unfold Running OnlyEntryOf NothingWaits; decide +kernel

/-! ### Witnesses: stop lines -/

theorem witness_StepKeepsTrippedAtRest :
    let s := { lifting with stops := { lifting.stops with latch := lifting.stops.latch.set 8 true } }
    TrippedAtRest s ∧ s.tripped 8 = true := by
  refine ⟨fun h c hs => ?_, by decide +kernel⟩
  have only : ∀ h : Hatch, ({ lifting with stops := { lifting.stops with latch := lifting.stops.latch.set 8 true } } : State).tripped h
      = true → h = 8 := by decide +kernel
  have := only h hs
  subst this
  cases c <;> decide +kernel

theorem witness_HatchLoopTrips :
    let s := { lifting with stops := { lifting.stops with loopOpen := lifting.stops.loopOpen.set 8 true } }
    Running s ∧ (9 : Fin 10).val = (8 : Hatch).val + 1 ∧ s.stops.loopOpen.get 8 = true ∧
      (2 : Fin 10).val = (1 : Hatch).val + 1 ∧ s.stops.loopOpen.get 1 = false ∧ s.stops.latch.get 1 = false ∧
      OnlyEntryOf s 1 ∧ s.drive.jog = none ∧ (s.ctx 1).state.isMoving = true := by unfold Running OnlyEntryOf; decide +kernel

theorem witness_EstopTripsEverything :
    Running lifting ∧ lifting.stops.estopOpen = false ∧ lifting.stops.estopLatch = false := by unfold Running; decide +kernel

/-- The part with the loop of H9 AUTO and its latch set. -/
def latched (s : State) : State :=
  { s with
    store := { s.store with copy := s.store.copy.withItem 4 9 1 }
    stops := { s.stops with latch := s.stops.latch.set 8 true, clearing := s.stops.clearing.set 8 9 } }

theorem witness_ClosedLoopClears :
    Running (latched base) ∧ (9 : Fin 10).val = (8 : Hatch).val + 1 ∧ (latched base).params.clearsAuto 8 = true ∧
      (latched base).stops.latch.get 8 = true ∧ (latched base).stops.loopOpen.get 8 = false ∧
      0 < (latched base).stops.clearing.get 8 ∧ NothingWaits (latched base) 8 ∧
      base.params.clearsAuto 8 = false := by unfold Running NothingWaits; decide +kernel

theorem witness_AckTripClearsLatch :
    let f (n : Byte) := frame 1 [13, 9, n]
    let s (n : Byte) := asked (latched base) 1 [13, 9, n]
    let e := { s 0 with stops := { (s 0).stops with estopLatch := true } }
    let o := { s 9 with stops := { (s 9).stops with loopOpen := (s 9).stops.loopOpen.set 8 true } }
    (Offers 13 (s 0) (f 0) ∧ (s 0).imageValid = true ∧ roleOf (f 0).station = .cargo ∧ (s 0).stops.estopLatch = false) ∧
      (Offers 13 e (f 0) ∧ e.stops.estopLatch = true ∧ e.stops.estopOpen = false) ∧
      (Offers 13 (s 9) (f 9) ∧ (f 9).byte 2 = (8 : Hatch).val + 1 ∧ (s 9).stops.latch.get 8 = true) ∧
      (Offers 13 o (f 9) ∧ o.stops.loopOpen.get 8 = true) := by unfold Offers; decide +kernel

theorem witness_AckTripClearsLatch_nothing_waits (bs : List Byte) : ∀ h, NothingWaits (asked (latched base) 1 bs) h := by
  intro h
  refine ⟨?_, ?_⟩
  · have : ∀ h, (base.ctx h).mark = false := by decide +kernel
    exact this h
  · simp [reclampSet, no_records (s := asked (latched base) 1 bs) rfl h, Groups.isEmpty]

/-! ### Witnesses: hydraulic supply and flow allocation -/

/-- The part with pump set P3 in a state, its feedback as given, rated 180. -/
def pumpAt (s : State) (st : PumpState) (feedback : Bool) : State := s.setPump 2 ⟨st, 180, feedback, none, 0, 50⟩

theorem witness_PumpFeedbackAndTimers :
    let ok (st : PumpState) (fb : Bool) := Running (pumpAt base st fb) ∧ NoEntry (pumpAt base st fb) ∧
      (pumpAt base st fb).arbiter.idleTimer < (pumpAt base st fb).params.idleTime ∧
      ((pumpAt base st fb).pump 2).state = st ∧ ((pumpAt base st fb).pump 2).feedback = fb
    ok .starting false ∧ ok .off false ∧ ok .tripped false ∧ ok .running true ∧ ok .stopping true ∧ ok .off true := by
  unfold Running NoEntry; decide +kernel

theorem witness_PressureTimersSetFlags :
    let s (v : Int) (low : Bool) := { pumpAt base .running true with
      supply := { (pumpAt base .running true).supply with lowPressure := low }
      analog := { base.analog with pressure := ⟨2000, some v, false, 0, 0, 0⟩ } }
    Running base ∧ lowCounts (s 899 false) = true ∧ lowCounts (s 900 false) = false ∧
      recoveryCounts (s 950 true) = true ∧ recoveryCounts (s 949 true) = false := by unfold Running; decide +kernel

theorem witness_IdleAndReductionStopPumps :
    let s := { pumpAt base .running true with arbiter := { base.arbiter with idleTimer := 1 } }
    let two := { (s.setPump 0 ⟨.running, 180, true, none, 0, 50⟩) with
      arbiter := { s.arbiter with pending := [⟨0, .step .engage, .normal, 70, 40, 1, false⟩], reductionTimer := 1, reductionSet := some 2 } }
    (Running s ∧ NoEntry s ∧ 0 < s.arbiter.idleTimer ∧ s.arbiter.idleTimer < s.params.idleTime) ∧ base.arbiter.idleTimer = 0 ∧
      0 < two.arbiter.reductionTimer ∧ reductionFor s = none ∧
      (Running two ∧ reductionFor two = some 2 ∧ (two.pump 2).feedback = true) := by unfold Running NoEntry; decide +kernel

theorem witness_AckPumpClears :
    let f := frame 13 [14, 9, 3]
    let s (st : PumpState) (fb : Bool) := asked (pumpAt base st fb) 13 [14, 9, 3]
    let meets (t : State) := Offers 14 t f ∧ t.imageValid = true ∧ NoEntry t
    (f.byte 2 = (2 : PumpId).val + 1 ∧ roleOf f.station = .service) ∧ meets (s .off false) ∧ meets (s .tripped true) ∧
      meets (s .tripped false) := by unfold Offers NoEntry; decide +kernel

theorem witness_AckPumpClears_flags :
    let f := frame 0 [14, 9, 0]
    let s (live seen : Bool) := { asked base 0 [14, 9, 0] with
      supply := { base.supply with lowPressure := live, overtempSeen := seen } }
    let meets (t : State) := Offers 14 t f ∧ t.imageValid = true
    (f.byte 2 = 0 ∧ roleOf f.station = .bridge) ∧ meets (s true true) ∧ meets (s false true) ∧ meets (s false false) := by
  unfold Offers; decide +kernel

/-- One entry granted, one shed, one that waits. -/
def flowing : State :=
  { withFlow base 100 with arbiter := { base.arbiter with
    granted := [⟨⟨0, .step .engage, .secure, 60, 40, 3, false⟩, ⟨60, none⟩⟩]
    pending := [⟨1, .step .lower, .secure, 80, 60, 2, true⟩, ⟨2, .step .lift, .normal, 80, 60, 1, false⟩]
    counter := 3 } }

theorem witness_StepKeepsFlowLaws : FlowLawful flowing ∧ OneStarting (pumpAt flowing .starting false) := by
  refine ⟨⟨by unfold OneEntryEach; decide, by unfold InGrantOrder; decide, by decide, fun t => ?_⟩, ?_⟩
  · cases t <;> decide +kernel
  · unfold OneStarting; decide +kernel

theorem witness_AllocationStaysWithinFlow :
    FlowLawful flowing ∧ (allocate flowing).arbiter.pending.head?.isSome = true ∧ flowing.supply.available = 100 :=
  ⟨witness_StepKeepsFlowLaws.1, by decide +kernel, rfl⟩

/-! ### Witnesses: Configuration Store and retention memory -/

/-- SERVICE sets an item at an index to a value, as its six bytes. -/
def paramFrame (item hi lo vhi vlo : Byte) : List Byte := [16, 9, item, hi, lo, vhi, vlo]

theorem witness_ParamTakenForWriting :
    let s (b : List Byte) := asked base 13 b
    let f (b : List Byte) := frame 13 b
    let meets (b : List Byte) := Offers 16 (s b) (f b) ∧ itemExists ((f b).byte 2) ((f b).word 3) = true
    let v (b : List Byte) := ofSigned2 ((f b).word 5)
    let copy (b : List Byte) := base.store.copy.withItem ((f b).byte 2) ((f b).word 3) (v b)
    let good := paramFrame 12 0 0 0 200
    let bad := paramFrame 12 0 0 0 201
    let unsound := paramFrame 21 0 0 2 88
    (meets good ∧ itemValueOk 12 (v good) = true ∧ (copy good).sound = true) ∧ (meets bad ∧ itemValueOk 12 (v bad) = false) ∧
      (meets unsound ∧ itemValueOk 21 (v unsound) = true ∧ (copy unsound).sound = false) ∧
      (s good).store.unsaved = none ∧ (∀ h, ((s good).ctx h).state.isMoving = false) ∧ (s good).drive.jog = none ∧
      NoEntry (s good) := by unfold Offers NoEntry; decide +kernel

theorem witness_ParamTakenForWriting_refused :
    let b := paramFrame 30 0 0 3 132
    Offers 16 (asked base 0 b) (frame 0 b) ∧ itemExists ((frame 0 b).byte 2) ((frame 0 b).word 3) = true ∧
      roleOf (frame 0 b).station ≠ .service ∧ Offers 16 (asked lifting 13 b) (frame 13 b) ∧
      ((asked lifting 13 b).ctx 1).state.isMoving = true := by unfold Offers; decide +kernel

/-- A write of the last item under way, SERVICE waiting for its answer. -/
def writing (image : ImageState) (marked : Bool) : State :=
  { base.setStation 13 ⟨true, 0, some ⟨16, 9⟩⟩ with
    store := { base.store with image := image, write := some ⟨30, 0, 900⟩, written := Tbl.fill 949 marked } }

theorem witness_WriteEndsAnswered :
    let meets (s : State) := Running s ∧ s.store.write = some ⟨30, 0, 900⟩ ∧ (s.station 13).outstanding = some ⟨16, 9⟩
    (meets (writing .valid false) ∧ meets (writing .reading true) ∧ meets (writing .invalid true)) ∧ itemExists 30 0 = true ∧
      (948 : Fin 949).val = itemPlace 30 0 ∧ (writing .invalid true).imageValid = false := by unfold Running; decide +kernel

theorem witness_WriteEndsAnswered_marks :
    (∀ j, ((writing .invalid true).store.written.set 948 true).get j = true) ∧
      ∃ j, ((writing .invalid false).store.written.set 948 true).get j = false :=
  ⟨fun j => by rw [Tbl.get_set]; split <;> simp [writing], ⟨0, by simp [writing]⟩⟩

theorem witness_RetentionWritesInOrder :
    let s (w : Option RetWrite) := { withManual base with retention :=
      { base.retention with underWay := w, waiting := [.cleat 287, .holds] } }
    (Running (s none) ∧ (s none).retention.underWay = none) ∧
      (Running (s (some (.holds [] 3))) ∧ (s (some (.holds [] 3))).retention.underWay = some (.holds [] 3)) ∧
      (Running (s (some (.cleat 0 .built))) ∧ (s (some (.cleat 0 .built))).retention.underWay = some (.cleat 0 .built)) := by
  unfold Running; decide +kernel

/-! ### Witnesses: sensing -/

/-- H2 lifting, its line in a state with misses. -/
def lineState (st : JunctionState) (misses : Nat) (good : Bool) : State :=
  lifting.setJunction 1 { lineAt 5 .lowered with state := st, misses := misses, goodFrame := good }

theorem witness_MissedScansLoseTheLine :
    let meets (st : JunctionState) (n : Nat) (good : Bool) := Running (lineState st n good) ∧
      ((lineState st n good).junctions.get 1).state = st ∧ ((lineState st n good).junctions.get 1).misses = n ∧
      ((lineState st n good).junctions.get 1).goodFrame = good
    (meets .online 0 true ∧ meets .online 0 false ∧ meets .missing 1 false ∧ meets .lost 3 false ∧ meets .missing 2 false) ∧
      OnlyEntryOf (lineState .missing 2 false) 1 ∧ (lineState .missing 2 false).drive.jog = none ∧
      ((lineState .missing 2 false).ctx 1).state.isMoving = true := by unfold Running OnlyEntryOf; decide +kernel

/-- A junction frame: the eight cleat bytes, the jack byte and both positions, with its CRC-8. -/
def junctionBytes (hi lo : Byte) : List Byte :=
  let body : List Byte := [0x55, 0x55, 0x55, 0x55, 0x55, 0x55, 0x55, 0x55, 0x0A, hi, lo, hi, lo]
  body ++ [crc8 body]

theorem witness_GoodFrameIsSampled :
    let good (bs : List Byte) : Prop := bs.length = 14 ∧ bs[13]? = some (crc8 (bs.take 13))
    (Running (lineState .missing 2 false) ∧ ((lineState .missing 2 false).junctions.get 1).goodFrame = false) ∧
      ((lineState .online 0 true).junctions.get 1).goodFrame = true ∧ good (junctionBytes 0 65) ∧ ¬ good (List.replicate 14 0) ∧
      ((lineState .missing 2 false).panel 1 .port).position = some 5 ∧ framePosition (junctionBytes 0 65) .port = 65 ∧
      framePosition (junctionBytes 0 66) .port = 66 ∧ good (junctionBytes 0 66) := by unfold Running; decide +kernel

theorem witness_AnalogSamplesScale :
    let inBand (c : AnalogCodes) : Prop := 720 ≤ c.pressure.toNat ∧ c.pressure.toNat ≤ 4080
    Running base ∧ base.analog.heel.fault = false ∧ inBand ⟨720, 720, 720, 720⟩ ∧ inBand ⟨4080, 4080, 4080, 4080⟩ ∧
      ¬ inBand ⟨719, 719, 719, 719⟩ ∧ ¬ inBand ⟨4081, 4081, 4081, 4081⟩ := by unfold Running; decide +kernel

/-! ### Witnesses: the further clauses of the statements, in their order -/

theorem witness_ImageReadBuildsRecords_kept :
    let agreeing : Kept := ⟨some .handSet, some ⟨true, 3, 5⟩, none, 255⟩
    let wrong : Kept := ⟨none, none, none, 0⟩
    let s (k : Kept) := { State.reset with
      retention := { State.reset.retention with cleats := State.reset.retention.cleats.set 287 k }
      junctions := State.reset.junctions.set 8 (lineAt 15 .lowered) }
    Running (s agreeing) ∧ (s agreeing).store.image = .reading ∧ Image.default.fitted 287 = true ∧
      Image.default.isManual 287 = false ∧ (s agreeing).retention.cleats.get 287 = agreeing ∧
      (s wrong).retention.cleats.get 287 = wrong ∧ wrong.service.isSome ≠ Image.default.fitted 287 ∧ NoEntry (s wrong) ∧
      (∀ h, ((s wrong).ctx h).mark = false) ∧ ((s wrong).ctx 8).state = .unknown ∧
      ((s wrong).junctions.get 8).state = .online := by unfold Running NoEntry; decide +kernel

theorem witness_SilenceMakesStationAbsent_same_instant :
    let s (t : Nat) := base.setStation 13 ⟨true, t, none⟩
    (s 0).inReset = false ∧ ((s 0).station 13).present = true ∧ ((s 0).station 13).silence = 0 ∧
      0 < ((s 1).station 13).silence := by decide +kernel

theorem witness_LookGivesWholeRecords_selector :
    let b := look 1 0 0 2 0 0
    Offers 2 (asked base 0 b) (frame 0 b) ∧ (frame 0 b).byte 2 = 1 ∧ 1 < (frame 0 b).byte 5 := by unfold Offers; decide +kernel

/-- The part with a heel sensed. -/
def withHeel (s : State) (v : Int) : State :=
  { s with analog := { s.analog with heel := ⟨2000, some v, false, 0, 0, 0⟩ } }

theorem witness_MoveWithFlowDrivesValves_roll :
    let s (mm : Nat) (b : Byte) := asked (withHeel (withFlow (placed base 8 .held mm .lifted) 120) 30) 0 [4, 9, 9, b]
    (Moves (s 5 0) (frame 0 [4, 9, 9, 0]) 8 true .rollOut ∧ Moves (s 16 1) (frame 0 [4, 9, 9, 1]) 8 false .rollIn) ∧
      heelGates (s 5 0) = false ∧ heelStops (s 5 0) = false ∧ (s 5 0).params.stepM .rollIn = (s 5 0).supply.available ∧
      (s 5 0).params.stepM .rollOut = (s 5 0).supply.available := by unfold Moves Offers NoEntry; decide +kernel

theorem witness_MoveWithFlowDrivesValves_engage :
    let s := asked (withFlow (base.setSlot 287 (some (cleatRec false .released))) 40) 0 [4, 9, 9, 1]
    Moves s (frame 0 [4, 9, 9, 1]) 8 false .engage ∧ allHydraulic s 8 .engaged = false ∧
      s.params.stepM .engage = s.supply.available := by unfold Moves Offers NoEntry; decide +kernel

theorem wantedHydraulic_of {s : State} (e : ∀ id, (s.slot id).all
    (fun r => decide (r.wanted ≠ .no → r.service = .inService ∧ r.manual = false)) = true) : WantedHydraulic s := by
  intro id r h hw
  have := e id
  rw [h] at this
  simpa [hw] using this

theorem witness_HaltStopsMotion_reclamp :
    let s := asked reclamping 11 [5, 9, 1]
    (Offers 5 s (frame 11 [5, 9, 1]) ∧ s.imageValid = true ∧ jogOn s 0 = false ∧ Reclamping s 0 ∧ OnlyEntryOf s 0) ∧
      WantedHydraulic s :=
  ⟨by unfold Offers Reclamping OnlyEntryOf; decide +kernel, wantedHydraulic_of (by decide +kernel)⟩

theorem witness_HaltStopsMotion_stopping_and_marked :
    let f := frame 11 [5, 9, 2]
    let s := asked { base with hatches := base.hatches.set 1 { inState .stopping with next := some .closing } } 11 [5, 9, 2]
    let t := asked { base with hatches := base.hatches.set 1 { inState .open with mark := true } } 11 [5, 9, 2]
    (Offers 5 s f ∧ jogOn s 1 = false ∧ (s.ctx 1).state = .stopping ∧ (s.ctx 1).step = none) ∧
      (Offers 5 t f ∧ ¬ Stoppable t 1 ∧ (t.ctx 1).state ≠ .stopping ∧ (t.ctx 1).step = none ∧
        (reclampSet t 1).isEmpty = true) := by unfold Offers Stoppable Reclamping; decide +kernel

theorem witness_HaltStopsMotion_jog :
    let f := frame 11 [5, 9, 9]
    let s := asked (jogging .active) 11 [5, 9, 9]
    let q := asked (jogging .queued) 11 [5, 9, 9]
    (Offers 5 s f ∧ s.imageValid = true ∧ (s.ctx 8).state = .held ∧ (s.ctx 8).step = none ∧ (s.ctx 8).mark = false ∧
        (s.channel 8 .rollStbd).jogMaster = true ∧ 0 < (s.channel 8 .rollStbd).applied) ∧
      (Offers 5 q f ∧ (q.channel 8 .rollStbd).jogMaster = false ∧ OnlyEntryOf q 8 ∧ (reclampSet q 8).isEmpty = true) := by
  unfold Offers OnlyEntryOf; decide +kernel

theorem witness_HaltStopsMotion_all :
    let f := frame 0 [5, 9, 0]
    let s := asked { lifting with hatches := lifting.hatches.upd 8 fun c => { c with mark := true } } 0 [5, 9, 0]
    (Offers 5 s f ∧ f.byte 2 = 0 ∧ s.imageValid = true ∧ roleOf f.station = .bridge ∧ s.drive.jog = none ∧ AllStoppable s) ∧
      WantedHydraulic s ∧ ∀ h, (s.ctx h).mark = true → Reclamping s h ∨ (reclampSet s h).isEmpty = true :=
  ⟨by unfold Offers AllStoppable Stoppable Reclamping; decide +kernel, wantedHydraulic_of (by decide +kernel),
    by unfold Reclamping; decide +kernel⟩

/-- The part with every verdict SECURED, asked for a squall closure by CARGO. -/
def squallAsked (s : State) : State := asked { s with table := { s.table with verdict := Tbl.fill 9 .secured } } 1 [11, 9]

theorem witness_SquallMarksHatches_opening :
    let s := squallAsked lifting
    Offers 11 s (frame 1 [11, 9]) ∧ s.imageValid = true ∧ (s.ctx 1).mark = false ∧ s.drive.jog = none ∧ OnlyEntryOf s 1 ∧
      (∀ g, g ≠ 1 → (s.ctx g).state = .closed ∧ (s.table.verdict.get g).isSecured = true) ∧ (s.ctx 1).state = .opening ∧
      (s.channel 1 .jackPort).applied ≠ 0 := by unfold Offers OnlyEntryOf; decide +kernel

/-- H2 closing with a granted ENGAGE, or with one that waits for flow. -/
def engaging (granted : Bool) : State :=
  let s := withFlow (placed base 1 .closing 5 .lowered) (if granted then 40 else 39)
  if granted then grantedTo s 1 (activeStep .engage)
  else { s with
    hatches := s.hatches.upd 1 fun c => { c with step := some (joined .engage .normal .queued) }
    arbiter := { s.arbiter with pending := [⟨1, .step .engage, .normal, 60, 40, 1, false⟩], counter := 1 } }

theorem witness_SquallMarksHatches_closing :
    let s := squallAsked (engaging true)
    let q := squallAsked (engaging false)
    let g : Granted := ⟨⟨1, .step .engage, .normal, 60, 40, 1, false⟩, ⟨40, none⟩⟩
    (Offers 11 s (frame 1 [11, 9]) ∧ (s.ctx 1).state = .closing ∧ (s.ctx 1).step = some (activeStep .engage) ∧
        s.arbiter.pending = [] ∧ s.arbiter.granted = [g] ∧ g.entry.cls = (activeStep .engage).cls ∧ WithinFlow s ∧
        withShares s.supply.available [g] = [g]) ∧
      (Offers 11 q (frame 1 [11, 9]) ∧ (q.ctx 1).step = some (joined .engage .normal .queued) ∧
        q.arbiter.pending = [g.entry] ∧ q.arbiter.granted = [] ∧ q.supply.available < g.entry.m) := by
  unfold Offers WithinFlow; decide +kernel

/-- H2 in a state, nothing of it under way, the others CLOSED and secured, a squall closure asked for. -/
def squallOn (st : HatchState) (mm : Nat) : State := squallAsked (placed base 1 st mm .lowered)

def unsecured (s : State) : State := { s with table := { s.table with verdict := s.table.verdict.set 1 .unsecured } }

/-- The conditions of the statement's clause on such a hatch. -/
def squallMeets (s : State) : Prop :=
  Offers 11 s (frame 1 [11, 9]) ∧ NoEntry s ∧ (s.ctx 1).step = none ∧ (s.ctx 1).mark = false

theorem witness_SquallMarksHatches_start :
    (squallMeets (squallOn .open 7600) ∧ MayStart (squallOn .open 7600) 1 ∧
        (squallOn .open 7600).supply.available < (squallOn .open 7600).params.stepM .unpark) ∧
      (squallMeets (squallOn .held 5) ∧ MayStart (squallOn .held 5) 1) ∧
      squallMeets (unsecured (squallOn .closed 16)) ∧ MayStart (unsecured (squallOn .closed 16)) 1 := by
  unfold squallMeets Offers NoEntry MayStart; decide +kernel

theorem witness_SquallMarksHatches_no_start :
    let tripped := { squallOn .open 7600 with stops := { base.stops with latch := base.stops.latch.set 1 true } }
    (squallMeets (unsecured (squallOn .closed 15)) ∧ ¬ MayStart (unsecured (squallOn .closed 15)) 1) ∧
      squallMeets tripped ∧ ¬ MayStart tripped 1 := by unfold squallMeets Offers NoEntry MayStart; decide +kernel

/-- H3 STOPPING, its PORT roll channel one update short of rest. -/
def stoppingAt (next : NextState) : State :=
  let s := rollAt ⟨.a, 0⟩ (some .a) 100 0
  { s with hatches := s.hatches.set 2 { inState .stopping with next := some next } }

/-- The update that brings the PORT roll channel of H3 to rest. -/
def restsAtUpdate (s : State) : Prop :=
  Running s ∧ channelHeld s 2 .rollPort = false ∧ (s.channel 2 .rollPort).mismatchTimer < 180 ∧
    (s.channel 2 .rollPort).target.command = 0 ∧ 0 < (s.channel 2 .rollPort).applied ∧
    (s.channel 2 .rollPort).applied - s.params.rampDown = 0

theorem witness_DriveUpdateMovesChannel_stopping :
    let s := stoppingAt .closing
    let b := held s [entry 7 0 .loader 4 1] 7
    (restsAtUpdate (stoppingAt (.held .halt)) ∧ ((stoppingAt (.held .halt)).ctx 2).next = some (.held .halt)) ∧
      (restsAtUpdate s ∧ (s.ctx 2).state = .stopping ∧ (s.ctx 2).step = none ∧ (s.ctx 2).next = some .closing ∧
        isBlocked s 2 (.step (closingStart s 2)) = false ∧ NoEntry s ∧
        s.supply.available < s.params.stepM (closingStart s 2)) ∧
      (restsAtUpdate b ∧ isBlocked b 2 (.step (closingStart b 2)) = true) := by
  unfold restsAtUpdate Running NoEntry; decide +kernel

theorem witness_DriveUpdateMovesChannel_other_channels :
    (∀ d, d ≠ .rollPort → ((stoppingAt .closing).channel 2 d).applied = 0) ∧
      ∀ q, rollChannel q ≠ .rollPort → ((stoppingAt .closing).channel 2 (rollChannel q)).applied = 0 := by
  refine ⟨fun d hd => ?_, fun q hq => ?_⟩
  · cases d <;> first | exact absurd rfl hd | decide +kernel
  · cases q <;> first | exact absurd rfl hq | decide +kernel

theorem witness_DriveUpdateMovesChannel_jog :
    let s := jogging .ending
    Running s ∧ s.drive.jog = some ⟨8, .rollStbd, .a, 300, .ending, 10⟩ ∧ channelHeld s 8 .rollStbd = false ∧
      (s.channel 8 .rollStbd).mismatchTimer < 180 ∧ (s.channel 8 .rollStbd).target.command = 0 ∧
      0 < (s.channel 8 .rollStbd).applied ∧ (s.channel 8 .rollStbd).applied - s.params.rampDown = 0 ∧
      (s.ctx 8).state ≠ .stopping ∧ (s.ctx 8).step = none ∧ OnlyEntryOf s 8 ∧ NothingWaits s 8 := by
  unfold Running OnlyEntryOf NothingWaits; decide +kernel

theorem witness_DriveUpdateMovesChannel_roll_step :
    let st (name : StepName) : StepCtx := { activeStep name with arrived := ⟨true, true⟩ }
    let s (name : StepName) (hs : HatchState) (mm : Nat) :=
      withChannel (grantedTo (placed base 2 hs mm .lifted) 2 (st name)) 2 .rollPort fun r =>
        { r with working := some .a, applied := 100 }
    let meets (name : StepName) (hs : HatchState) (mm : Nat) := restsAtUpdate (s name hs mm) ∧
      ((s name hs mm).ctx 2).step = some (st name) ∧ ((s name hs mm).ctx 2).state = hs ∧ OnlyEntryOf (s name hs mm) 2 ∧
      (s name hs mm).drive.jog = none ∧ ((s name hs mm).channel 2 .rollStbd).applied = 0
    meets .rollOut .opening 7600 ∧ meets .rollIn .closing 5 ∧ isBlocked (s .rollIn .closing 5) 2 (.step .lower) = false ∧
      isBlocked (held (s .rollOut .opening 7600) [entry 7 0 .personnel 4 1] 7) 2 (.step .park) = true := by
  unfold restsAtUpdate Running OnlyEntryOf; decide +kernel

theorem witness_JogEnds_other_phases :
    let rest (s : State) := withChannel s 8 .rollStbd fun r => { r with applied := 0 }
    let shed := withChannel (jogging .shed) 8 .rollStbd fun r => { r with jogMaster := true }
    let meets (s : State) (p : JogPhase) :=
      Running s ∧ s.drive.jog = some ⟨8, .rollStbd, .a, 300, p, 10⟩ ∧ OnlyEntryOf s 8 ∧ NothingWaits s 8
    (Running base ∧ base.drive.jog = none) ∧
      (meets shed .shed ∧ 0 < (shed.channel 8 .rollStbd).applied ∧ (shed.channel 8 .rollStbd).jogMaster = true) ∧
      (meets (rest shed) .shed ∧ ((rest shed).channel 8 .rollStbd).applied = 0) ∧
      (meets (rest (jogging .active)) .active ∧ ((rest (jogging .active)).channel 8 .rollStbd).applied = 0) ∧
      (meets (jogging .ending) .ending ∧ 0 < ((jogging .ending).channel 8 .rollStbd).applied) := by
  unfold Running OnlyEntryOf NothingWaits; decide +kernel

theorem witness_HatchLoopTrips_latched_and_reclamping :
    let s := { lifting with stops := { lifting.stops with latch := lifting.stops.latch.set 1 true } }
    (Running s ∧ s.stops.loopOpen.get 1 = false ∧ s.stops.latch.get 1 = true) ∧
      (Running reclamping ∧ (1 : Fin 10).val = (0 : Hatch).val + 1 ∧ reclamping.stops.latch.get 0 = false ∧
        reclamping.stops.loopOpen.get 0 = false ∧ OnlyEntryOf reclamping 0 ∧ reclamping.drive.jog = none ∧
        Reclamping reclamping 0) := by unfold Running OnlyEntryOf Reclamping; decide +kernel

theorem witness_EstopTripsEverything_latched_and_moving :
    let s := { lifting with stops := { lifting.stops with estopLatch := true } }
    (Running s ∧ s.stops.estopOpen = false ∧ s.stops.estopLatch = true) ∧ AllStoppable lifting ∧ lifting.drive.jog = none ∧
      (lifting.ctx 1).state.isMoving = true ∧ AllStoppable reclamping ∧ Reclamping reclamping 0 ∧
      (reclamping.ctx 8).state.isMoving = false ∧ ¬ Reclamping reclamping 8 := by
  unfold Running AllStoppable Stoppable Reclamping; decide +kernel

theorem witness_AckTripClearsLatch_local :
    let s (n : StationId) := asked (latched base) n [13, 9, 9]
    let f (n : StationId) := frame n [13, 9, 9]
    (Offers 13 (s 10) (f 10) ∧ (f 10).station = localStation 8 ∧ (s 10).stops.latch.get 8 = true ∧
        (s 10).stops.loopOpen.get 8 = false ∧ NothingWaits (s 10) 8) ∧
      (Offers 13 (s 9) (f 9) ∧ (f 9).station ≠ localStation 8 ∧ roleOf (f 9).station = .local) ∧
      Offers 13 (asked base 12 [13, 9, 0]) (frame 12 [13, 9, 0]) ∧ roleOf (frame 12 [13, 9, 0]).station = .monitor := by
  unfold Offers NothingWaits; decide +kernel

theorem witness_PumpFeedbackAndTimers_idle :
    let s := pumpAt { base with arbiter := { base.arbiter with idleTimer := 600 } } .starting false
    Running s ∧ NoEntry s ∧ s.params.idleTime = s.arbiter.idleTimer ∧ (s.pump 2).state = .starting := by
  unfold Running NoEntry; decide +kernel

theorem witness_IdleAndReductionStopPumps_granted :
    let s := { withFlow ((pumpAt base .running true).setPump 0 ⟨.running, 180, true, none, 0, 50⟩) 160 with
      arbiter := { base.arbiter with
        granted := [⟨⟨0, .step .engage, .normal, 70, 40, 1, false⟩, ⟨70, none⟩⟩], reductionTimer := 1, reductionSet := some 2 } }
    Running s ∧ reductionFor s = some 2 ∧ s.arbiter.reductionSet = some 2 ∧ 0 < s.arbiter.reductionTimer ∧ (s.pump 2).feedback = true ∧ FlowLawful s ∧
      s.arbiter.pending = [] := by
  refine ⟨by unfold Running; decide +kernel, by decide +kernel, rfl, by decide, by decide +kernel,
    ⟨by unfold OneEntryEach; decide +kernel, by unfold InGrantOrder; decide +kernel, by decide +kernel, fun t => ?_⟩, rfl⟩
  cases t <;> decide +kernel

theorem witness_AllocationStaysWithinFlow_step :
    WithinFlow flowing ∧ (flowing.arbiter.granted.map (·.entry.m)).sum = 40 ∧ flowing.pending = [] ∧
      ∃ t, step flowing = .next t := ⟨by unfold WithinFlow; decide, by decide, rfl, _, rfl⟩

/-- SERVICE sets an item that an owner acts on, on a part where its value is another, as R181 lets it. -/
def takesParam (s : State) (b : List Byte) : Prop :=
  let f := frame 13 b
  let v := ofSigned2 (f.word 5)
  Offers 16 (asked s 13 b) f ∧ itemExists (f.byte 2) (f.word 3) = true ∧ itemValueOk (f.byte 2) v = true ∧
    (s.store.copy.withItem (f.byte 2) (f.word 3) v).sound = true ∧ s.imageValid = true ∧
    s.store.copy.item (f.byte 2) (f.word 3) ≠ v ∧ NoEntry s ∧ s.drive.jog = none ∧ s.store.unsaved = none ∧
    ∀ h, (s.ctx h).state.isMoving = false

theorem witness_ParamTakenForWriting_hatch :
    takesParam base (paramFrame 1 0 9 46 224) ∧ takesParam base (paramFrame 3 0 9 0 4) ∧ takesParam base (paramFrame 4 0 9 0 1) ∧
      (frame 13 (paramFrame 1 0 9 46 224)).word 3 = (8 : Hatch).val + 1 ∧ (base.ctx 8).mark = false := by
  unfold takesParam Offers NoEntry; decide +kernel

theorem witness_ParamTakenForWriting_layout :
    let manual := { base with store := { base.store with copy := base.store.copy.withItem 6 287 1 } }
    takesParam base (paramFrame 5 1 31 0 0) ∧ takesParam base (paramFrame 6 1 31 0 1) ∧
      takesParam manual (paramFrame 7 1 31 0 0) ∧ (frame 13 (paramFrame 5 1 31 0 0)).word 3 = (287 : CleatId).val ∧
      NothingWaits base (cleatHatch 287) ∧ NothingWaits manual (cleatHatch 287) := by
  unfold takesParam Offers NoEntry NothingWaits; decide +kernel

theorem witness_ParamTakenForWriting_rating :
    let zero := { base with store := { base.store with copy := base.store.copy.withItem 11 3 0 } }
    takesParam (pumpAt base .running true) (paramFrame 11 0 3 0 0) ∧ takesParam (pumpAt base .off false) (paramFrame 11 0 3 0 0) ∧
      takesParam (pumpAt zero .disabled false) (paramFrame 11 0 3 1 144) ∧
      takesParam (pumpAt zero .disabled true) (paramFrame 11 0 3 0 1) ∧
      (frame 13 (paramFrame 11 0 3 0 1)).word 3 = (2 : PumpId).val + 1 := by
  unfold takesParam Offers NoEntry; decide +kernel

theorem witness_ParamTakenForWriting_supply :
    takesParam base (paramFrame 12 0 0 0 200) ∧ takesParam base (paramFrame 13 0 0 0 29) ∧ takesParam base (paramFrame 14 0 0 0 11) := by
  unfold takesParam Offers NoEntry; decide +kernel

theorem witness_ParamTakenForWriting_limits :
    takesParam base (paramFrame 22 0 0 0 100) ∧ takesParam base (paramFrame 30 0 0 0 200) ∧ ∀ h, (base.ctx h).mark = false := by
  unfold takesParam Offers NoEntry; decide +kernel

theorem witness_ParamTakenForWriting_idle :
    let s (t : Nat) := { base with arbiter := { base.arbiter with idleTimer := t } }
    let b := paramFrame 29 0 0 1 44
    takesParam (s 299) b ∧ takesParam (s 300) b ∧ takesParam (s 600) b ∧ ofSigned2 ((frame 13 b).word 5) = 300 ∧
      base.params.idleTime = 600 := by unfold takesParam Offers NoEntry; decide +kernel

/-- A junction frame with every cleat pair, the jack byte and both positions as given, with its CRC-8. -/
def lineFrame (cleats jacks hi lo : Byte) : List Byte :=
  let body := List.replicate 8 cleats ++ [jacks, hi, lo, hi, lo]
  body ++ [crc8 body]

/-- A line whose next frame decides: its samples stand two deep, at a position, with the verdict they will change. -/
def decidingLine (mm : Nat) (x : Sample) (jack : JackVerdict) : Junction :=
  let p : PanelSense := { panelAt mm jack with accepted := [mm, mm], jackHistory := [x, x] }
  { lineAt mm jack with panels := ⟨p, p⟩ }

/-- H1 in a state, with its line and one HYDRAULIC cleat, whose samples stand two deep. -/
def deciding (st : HatchState) (j : Junction) (v : CleatVerdict) (x : Sample) (tries : Nat) : State :=
  ({ base with hatches := base.hatches.set 0 (inState st), junctions := base.junctions.set 0 j }).setSlot 31
    (some { cleatRec false v with history := [x, x], tries := tries })

theorem witness_GoodFrameIsSampled_samples :
    let s := deciding .closed (decidingLine 70 ⟨true, true⟩ .lowered) .engaged ⟨true, true⟩ 0
    let invalid := deciding .closed { lineAt 5 .lowered with
      panels := ⟨{ panelAt 5 .lowered with position := none, candidates := [60, 0] }, panelAt 5 .lowered⟩ } .engaged ⟨true, false⟩ 0
    let bs := lineFrame 0xFF 0xF0 0 60
    (Running s ∧ (s.junctions.get 0).goodFrame = false ∧ bs.length = 14 ∧ bs[13]? = some (crc8 (bs.take 13))) ∧
      ((s.slot 31).map fun r => (r.history, r.verdict, r.sensor)) = some ([⟨true, true⟩, ⟨true, true⟩], .engaged, true) ∧
      (s.panel 0 .port).accepted = [70, 70] ∧ (s.panel 0 .stbd).jackHistory = [⟨true, true⟩, ⟨true, true⟩] ∧
      (Running invalid ∧ (invalid.panel 0 .port).position = none ∧ (invalid.panel 0 .port).candidates = [60, 0]) := by
  unfold Running; decide +kernel

theorem witness_GoodFrameIsSampled_derived :
    let s := deciding .unknown (decidingLine 5 ⟨false, true⟩ .unverified) .engaged ⟨true, false⟩ 0
    let t := after (.junctionFrame 0 (lineFrame 0xAA 0x50 0 5)) s
    Running s ∧ (s.ctx 0).mark = false ∧ (s.ctx 0).step = none ∧ (s.ctx 0).state = .unknown ∧ s.imageValid = true ∧
      (t.panel 0 .port).position = some 5 ∧ (t.panel 0 .port).jack = .lowered ∧ (t.panel 0 .stbd).position = some 5 ∧
      (t.panel 0 .stbd).jack = .lowered := by unfold Running; decide +kernel

theorem witness_GoodFrameIsSampled_cleat_step :
    let s (name : StepName) (st : HatchState) (x : Sample) :=
      grantedTo (deciding st (lineAt 5 .lowered) .moving x 0) 0 (activeStep name)
    let t (name : StepName) (st : HatchState) (x : Sample) (b : Byte) :=
      after (.junctionFrame 0 (lineFrame b 0x50 0 5)) (s name st x)
    let meets (u : State) := Running u ∧ NothingWaits u 0 ∧ u.drive.jog = none ∧ OnlyEntryOf u 0 ∧
      u.supply.available < u.params.stepM .lift
    (meets (s .release .opening ⟨false, true⟩) ∧ allHydraulic (s .release .opening ⟨false, true⟩) 0 .released = false ∧
        allHydraulic (t .release .opening ⟨false, true⟩ 0x55) 0 .released = true) ∧
      (meets (s .engage .closing ⟨true, false⟩) ∧ allHydraulic (s .engage .closing ⟨true, false⟩) 0 .engaged = false ∧
        allHydraulic (t .engage .closing ⟨true, false⟩ 0xAA) 0 .engaged = true) := by
  unfold Running NothingWaits OnlyEntryOf; decide +kernel

theorem witness_GoodFrameIsSampled_jack_step :
    let s (name : StepName) (st : HatchState) (x : Sample) :=
      grantedTo (deciding st (decidingLine 5 x .between) .released ⟨false, true⟩ 0) 0 (activeStep name)
    let t (name : StepName) (st : HatchState) (x : Sample) (b : Byte) :=
      after (.junctionFrame 0 (lineFrame 0x55 b 0 5)) (s name st x)
    let lifts (name : StepName) (st : HatchState) := Running (s name st ⟨true, false⟩) ∧
      bothJacks (s name st ⟨true, false⟩) 0 .lifted = false ∧ bothJacks (t name st ⟨true, false⟩ 0xA0) 0 .lifted = true
    let lowers (name : StepName) (st : HatchState) := Running (s name st ⟨false, true⟩) ∧
      bothJacks (s name st ⟨false, true⟩) 0 .lowered = false ∧ bothJacks (t name st ⟨false, true⟩ 0x50) 0 .lowered = true
    lifts .lift .opening ∧ lifts .unpark .closing ∧ lowers .park .opening ∧ lowers .lower .closing ∧
      (t .lift .opening ⟨true, false⟩ 0xA0).panel 0 .port = (t .lift .opening ⟨true, false⟩ 0xA0).panel 0 .stbd ∧
      ((t .lift .opening ⟨true, false⟩ 0xA0).panel 0 .port).position = some 5 := by unfold Running; decide +kernel

theorem witness_GoodFrameIsSampled_trigger :
    let s (tries : Nat) := deciding .closed (lineAt 5 .lowered) .engaged ⟨false, true⟩ tries
    let t (tries : Nat) := after (.junctionFrame 0 (lineFrame 0x55 0x50 0 5)) (s tries)
    let meets (tries : Nat) := Running (s tries) ∧ ((s tries).ctx 0).mark = false ∧ ((s tries).ctx 0).state = .closed ∧
      ((s tries).ctx 0).step = none ∧ ((t tries).slot 31).map (·.verdict) = some .released
    (meets 2 ∧ NoEntry (s 2) ∧ (s 2).drive.jog = none ∧ (s 2).tripped 0 = false ∧ isBlocked (s 2) 0 (.step .reclamp) = false ∧
        (s 2).supply.available < (s 2).params.stepM .reclamp) ∧ meets 3 ∧
      Reclamping (grantedTo (s 2) 0 (activeStep .reclamp)) 0 := by unfold Running NoEntry Reclamping; decide +kernel

theorem witness_AnalogSamplesScale_limits :
    let faulted (n : Nat) := { base with analog := { base.analog with pressure := ⟨2000, some 900, true, 0, n, 1⟩ } }
    let t (code : BitVec 12) := (after (.analogSample (some ⟨2000, code, 2000, 2000⟩)) base).analog.temperature.reading
    (Running (faulted 1) ∧ (faulted 1).analog.pressure.fault = true ∧ (faulted 1).analog.pressure.inRun < 2 ∧
        2 ≤ (faulted 2).analog.pressure.inRun) ∧
      t 2972 = some (base.params.tHot) ∧ t 2995 = some (base.params.tHot + 1) ∧ t 2858 = some (base.params.tHot - 5) ∧
      t 2881 = some (base.params.tHot - 4) := by unfold Running; decide +kernel

/-! ### Tests of the hand-offs of one event -/

/-- R96: at a HALT of a CLOSED marked hatch the entry of its jog leaves before the RECLAMP of its wanted cleat is queued. -/
theorem test_halt_reclamp_after_jog :
    let s := (asked base 0 [5, 9, 1]).setSlot 31 (some { cleatRec false .released with wanted := .waiting })
    let t := after .halt { s with
      hatches := s.hatches.upd 0 fun c => { c with mark := true }
      drive := { s.drive with jog := some ⟨0, .jackPort, .a, 300, .queued, 10⟩ }
      arbiter := { s.arbiter with pending := [⟨0, .jog .jackPort, .normal, 40, 40, 1, false⟩], counter := 1 } }
    (t.ctx 0).step.map (·.name) = some .reclamp ∧ t.arbiter.pending.map (·.demand) = [.step .reclamp] ∧ t.drive.jog = none := by
  decide +kernel

/-- R146: a step that joins while the class change of the one before it waits keeps its table class. -/
theorem test_cancel_squall_joined_class :
    let urgent (n : StepName) (p : Phase) : HatchCtx :=
      { inState .closing with step := some (joined n .urgent p), mark := true }
    let s := withFlow (asked (withHeel base 0) 1 [12, 9]) 60
    let t := after .cancelSquall { s with
      hatches := (s.hatches.set 0 (urgent .unpark .active)).set 1 (urgent .rollIn .queued)
      arbiter := { s.arbiter with
        granted := [⟨⟨0, .step .unpark, .urgent, 60, 60, 1, false⟩, ⟨60, none⟩⟩]
        pending := [⟨1, .step .rollIn, .urgent, 80, 60, 2, false⟩], counter := 2 } }
    (t.ctx 1).step.map (·.name) ≠ some .rollIn ∧ t.arbiter.classOf 1 = (t.ctx 1).step.map (·.cls) ∧
      t.arbiter.classOf 1 = some .secure := by decide +kernel

/-- R88: a colder sample (10 °C after 11 °C) that leaves A at 19 and takes A' from 19 to 18 returns the reduction timer to 0. -/
theorem test_sample_ends_reduction :
    let s := ((withFlow base 19).setPump 0 ⟨.running, 37, true, none, 0, 50⟩).setPump 2
      ⟨.running, 1, true, none, 0, 50⟩
    let s := { s with
      store := { s.store with copy := { s.store.copy with single := s.store.copy.single.set 0 0 } }
      analog := { s.analog with temperature := ⟨1520, some 11, false, 0, 0, 0⟩ }
      arbiter := { s.arbiter with
        granted := [⟨⟨0, .step .engage, .normal, 19, 19, 1, false⟩, ⟨19, none⟩⟩], reductionTimer := 50, reductionSet := some 2 } }
    let t := after (.analogSample (some ⟨2000, 1500, 2000, 2000⟩)) s
    reductionFor s = some 2 ∧ availableNow s = 19 ∧ t.supply.available = 19 ∧ t.arbiter.reductionTimer = 0 := by decide +kernel

/-- R69: a panel at stow length plus 100 mm derives HELD; 1 mm short of that the panels, stowed and LOWERED, derive OPEN (R50). -/
theorem test_overtravelled_panel_derives_held :
    let t (mm : Nat) := after .ackFault (asked (placed base 1 .fault mm .lowered) 3 [6, 9, 2])
    ((t 7700).ctx 1).state = .held ∧ ((t 7700).ctx 1).held = some .ack ∧ ((t 7699).ctx 1).state = .open := by decide +kernel

/-- R56: where a drive update completes ROLL_IN first, the STEP_TIMEOUT of the same instant finds LOWER with no elapsed time. -/
theorem test_timeout_after_completion :
    let u := after (.driveUpdate 2 .rollPort) (withChannel (withFlow (grantedTo (placed base 2 .closing 5 .lifted) 2
      { activeStep .rollIn with elapsed := 1499, arrived := ⟨true, true⟩ }) 60) 2 .rollPort fun r =>
        { r with working := some .a, applied := 100 })
    (u.ctx 2).step.map (fun t => (t.name, t.phase, t.elapsed)) = some (.lower, .active, 0) ∧
      (after (.stepTimeout 2) u).ctx 2 = u.ctx 2 := by decide +kernel

/-- R123: a renewal taken first sets the jog timer back, and the expiry of the same instant ends nothing. -/
theorem test_jog_expiry_after_renewal :
    let s := { jogging .active with drive.jog := some ⟨8, .rollStbd, .a, 300, .active, 500⟩ }
    (after .jogTimerExpiry s).drive.jog = s.drive.jog ∧
      (after .jogTimerExpiry (jogging .active)).drive.jog.map (·.phase) = some .ending := by decide +kernel

end Sys2Proof.Tests
end

section
/-!
The Hold List: what a LIFT_HOLD does (R39 to R42), and the two statements on who may lift and what is left.
-/

namespace Sys2Proof.Machine
open Sys2Proof Sys2Proof.Safety

/-! ### What the hand-offs leave -/

/-- A part with the same outer part differs at most in what hand-offs work on. -/
theorem sameElsewhere_of_outer {u t : State} (h : t.outer = u.outer) : SameElsewhere u t := by
  refine ⟨holds_of_outer h, stops_of_outer h, junctions_of_outer h, analog_of_outer h, store_of_outer h,
    retention_of_outer h, rx_of_outer h, stations_of_outer h, overrun_of_outer h, keyOverride_of_outer h,
    keyService_of_outer h, inReset_of_outer h, resetCause_of_outer h, uptime_of_outer h, ticks_of_outer h,
    pending_of_outer h, cut_of_outer h, congrArg (·.supply.lowPressure) h, congrArg (·.supply.lowPressureSeen) h,
    congrArg (·.supply.overtemp) h, congrArg (·.supply.overtempSeen) h, fun g c => ?channels, fun k => ?pumps,
    fun id => ?slots⟩
  case channels =>
    have hp := plant_of_outer h g c
    exact ⟨congrArg (·.applied) hp, congrArg (·.working) hp, congrArg (·.duty) hp, congrArg (·.deadtime) hp,
      congrArg (·.sensed) hp, congrArg (·.coilFault) hp⟩
  case pumps =>
    have hp := plate_of_outer h k
    exact ⟨congrArg (·.rated) hp, congrArg (·.feedback) hp, congrArg (·.cause) hp, congrArg (·.age) hp⟩
  case slots =>
    have hs := congrArg (Option.map fun r : CleatRec =>
      (r.service, r.verdict, r.history, r.confirmation, r.retirement, r.faultCount)) (steady_of_outer h id)
    rwa [Option.map_map, Option.map_map] at hs

/-- Hand-offs that each leave the part as it is leave it as it was, with the agenda empty. -/
theorem drain_inert {s : State} (hi : ∀ t ∈ s.agenda, ∀ ts, runTask t { s with agenda := ts } = { s with agenda := ts })
    (n : Nat) (hn : s.agenda.length ≤ n) : drain n s = { s with agenda := [] } := by
  induction n generalizing s with
  | zero =>
    have hs : s.agenda = [] := List.eq_nil_of_length_eq_zero (by omega)
    rw [drain_nil 0 hs, ← hs]
  | succ n ih =>
    cases ha : s.agenda with
    | nil => rw [drain_nil _ ha, ← ha]
    | cons t ts =>
      rw [ha] at hi hn
      rw [drain_cons n ha, hi t List.mem_cons_self ts]
      exact ih (s := { s with agenda := ts }) (fun x hx => hi x (List.mem_cons_of_mem t hx))
        (Nat.le_of_succ_le_succ hn)

/-! ### Taking up what waited on a hold -/

/-- The take-ups of several hatches are their squall and RECLAMP tests, hatch by hatch. -/
theorem foldr_takeUp (hs : List Hatch) (s : State) :
    hs.foldr (fun h s => takeUp s h) s = s.push (hs.flatMap fun h => [.squallTry h, .reclampTest h]) := by
  induction hs with
  | nil => rfl
  | cons h hs ih => rw [List.foldr_cons, ih]; rfl

/-- Take-ups of hatches where nothing waits do nothing. -/
theorem settle_takeUps_nothing {s : State} {hs : List Hatch} (ha : s.agenda = []) (hl : hs.length ≤ 9)
    (hw : ∀ h ∈ hs, NothingWaits s h) : settle (hs.foldr (fun h s => takeUp s h) s) = s := by
  have hn : (hs.flatMap fun h => [Task.squallTry h, .reclampTest h]).length ≤ 4096 := by
    simp only [List.length_flatMap, List.length_cons, List.length_nil, List.map_const', List.sum_replicate, smul_eq_mul]
    omega
  rw [foldr_takeUp, settle, drain_inert _ _ (by simpa [ha] using hn)]
  · simp [State.push, ← ha]
  · intro t ht ts
    simp only [State.agenda_push, ha, List.append_nil, List.mem_flatMap, List.mem_cons, List.not_mem_nil, or_false] at ht
    obtain ⟨h, hh, rfl | rfl⟩ := ht
    · exact squallTry_unmarked (hw h hh).1
    · exact reclampTest_nothing (hw h hh).2

/-! ### The answer and the retention write -/

section
variable (s : State) (f : RxFrame) (c : Code) (d : List Byte)

@[simp] theorem reply_agenda : (reply s f c d).agenda = s.agenda := rfl
@[simp] theorem reply_hatches : (reply s f c d).hatches = s.hatches := rfl
@[simp] theorem reply_table : (reply s f c d).table = s.table := rfl
@[simp] theorem reply_tx : (reply s f c d).link.tx = s.link.tx ++ [answerFrame f c d] := rfl

end

/-- A change of a kept record changes the retention memory and its write list alone (R185). -/
theorem retain_eq (s : State) (i : RetItem) : retain s i = { s with retention := (retain s i).retention } := by
  simp only [retain]
  repeat' split
  all_goals rfl

@[simp] theorem retain_agenda (s : State) (i : RetItem) : (retain s i).agenda = s.agenda :=
  congrArg (·.agenda) (retain_eq s i)

@[simp] theorem retain_link (s : State) (i : RetItem) : (retain s i).link = s.link :=
  congrArg (·.link) (retain_eq s i)

@[simp] theorem retain_hatches (s : State) (i : RetItem) : (retain s i).hatches = s.hatches :=
  congrArg (·.hatches) (retain_eq s i)

@[simp] theorem retain_table (s : State) (i : RetItem) : (retain s i).table = s.table :=
  congrArg (·.table) (retain_eq s i)

/-- An answer and the start of a retention write do not touch each other. -/
theorem retain_reply (s : State) (f : RxFrame) (c : Code) (d : List Byte) (i : RetItem) :
    retain (reply s f c d) i = reply (retain s i) f c d := by
  simp only [retain, reply, send]
  cases s.retention.underWay with
  | none => cases i <;> rfl
  | some w =>
    by_cases hw : s.retention.waiting.contains i = true
    · simp only [hw, if_true]
    · simp only [hw, if_false, Bool.false_eq_true]

/-- What waits at a hatch is decided by the hatch contexts and the cleat records. -/
theorem nothingWaits_congr {s u : State} {h : Hatch} (hc : u.hatches = s.hatches) (ht : u.table = s.table)
    (hw : NothingWaits s h) : NothingWaits u h := by
  simpa only [NothingWaits, State.ctx, reclampSet, hatchRecords, hc, ht] using hw

/-! ### The entry with an id -/

/-- Two entries of a lawful list with one id are one entry (R26). -/
theorem distinctEntries_id {es : List HoldEntry} (hd : distinctEntries es = true) {x y : HoldEntry} (hx : x ∈ es)
    (hy : y ∈ es) (h : x.id = y.id) : x = y := by
  induction es with
  | nil => cases hx
  | cons e es ih =>
    simp only [distinctEntries, Bool.and_eq_true, List.all_eq_true, bne_iff_ne] at hd
    obtain ⟨hhead, htail⟩ := hd
    rcases List.mem_cons.mp hx with rfl | hxs
    · rcases List.mem_cons.mp hy with rfl | hys
      · rfl
      · exact absurd h.symm (hhead y hys).1
    · rcases List.mem_cons.mp hy with rfl | hys
      · exact absurd h (hhead x hxs).1
      · exact ih htail hxs hys

theorem eq_of_holdsLawful_of_id {s : State} (hl : HoldsLawful s) {x y : HoldEntry} (hx : x ∈ s.holds.entries)
    (hy : y ∈ s.holds.entries) (h : x.id = y.id) : x = y := by
  simp only [HoldsLawful, holdLaws, Bool.and_eq_true] at hl
  exact distinctEntries_id hl.2 hx hy h

/-- In a lawful list the search for an id finds the entry that has it. -/
theorem find_id_of_holdsLawful {s : State} (hl : HoldsLawful s) {e : HoldEntry} (he : e ∈ s.holds.entries) {k : Nat}
    (hk : e.id = k) : (s.holds.entries.find? fun x => x.id = k) = some e := by
  cases hf : s.holds.entries.find? fun x => x.id = k with
  | none => exact absurd hk (by simpa using List.find?_eq_none.mp hf e he)
  | some x =>
    have hx : x.id = k := by simpa using List.find?_some hf
    rw [eq_of_holdsLawful_of_id hl (List.mem_of_find?_eq_some hf) he (hx.trans hk.symm)]

/-! ### The lift of a found entry -/

/-- The part as the owner of a LIFT_HOLD request finds it: the frame taken, and the level of KEY_OVERRIDE read. -/
def liftTaken (key : Bool) (s : State) : State := { popped s with keyOverride := key }

/-- No hand-off of an earlier event waits where a request is offered. -/
theorem liftTaken_agenda {key : Bool} {s : State} {f : RxFrame} (ho : Offers 8 s f) : (liftTaken key s).agenda = [] := by
  obtain ⟨_, _, _, hagenda⟩ := ho
  exact hagenda

/-- The list without an entry, and its retention write begun or waiting (R42). -/
def withoutEntry (s : State) (e : HoldEntry) : State :=
  retain { s with holds := { s.holds with entries := s.holds.entries.filter fun x => x.id != e.id } } .holds

section
variable (s : State) (e : HoldEntry)

@[simp] theorem withoutEntry_agenda : (withoutEntry s e).agenda = s.agenda := by simp [withoutEntry]
@[simp] theorem withoutEntry_hatches : (withoutEntry s e).hatches = s.hatches := by simp [withoutEntry]
@[simp] theorem withoutEntry_table : (withoutEntry s e).table = s.table := by simp [withoutEntry]
@[simp] theorem withoutEntry_link : (withoutEntry s e).link = s.link := by simp [withoutEntry]

end

/-- The lift of the entry that the request names (R39 from its fourth row on). -/
def liftEntry (key : Bool) (s : State) (f : RxFrame) (e : HoldEntry) : State :=
  if e.kind = .restart then (if roleOf f.station = .bridge then wholeLift s f e else notOwner s f e)
  else if f.station = e.owner then ownerLift s f e
  else if e.kind = .lockout then notOwner s f e
  else if roleOf f.station = .bridge && key then wholeLift s f e
  else notOwner s f e

/-- Another station may lift an entry: BRIDGE a RESTART entry, and with the key any entry but a LOCKOUT (R41). -/
def MayLift (key : Bool) (f : RxFrame) (e : HoldEntry) : Prop :=
  roleOf f.station = .bridge ∧ (e.kind = .restart ∨ (e.kind ≠ .lockout ∧ key = true))

/-- A LIFT_HOLD request that passes the tests of R39 on image, role and id lifts the entry found. -/
theorem liftRequest_found {s : State} {f : RxFrame} {e : HoldEntry} (key : Bool) (hv : s.imageValid = true)
    (hm : roleOf f.station ≠ .monitor) (hf : (s.holds.entries.find? fun x => x.id = f.byte 2) = some e) :
    liftRequest key f s = liftEntry key { s with keyOverride := key } f e := by
  have hvalid : ({ s with keyOverride := key } : State).imageValid = true := hv
  simp only [liftRequest, hvalid, hm, hf, Bool.not_true, Bool.false_eq_true, if_false]
  rfl

/-- A LIFT_HOLD that is taken and names an entry of the list lifts that entry. -/
theorem exec_liftHold_found {s : State} {f : RxFrame} {e : HoldEntry} (key : Bool) (hl : HoldsLawful s)
    (ho : Offers 8 s f) (hv : s.imageValid = true) (he : e ∈ s.holds.entries) (hid : e.id = f.byte 2)
    (hm : roleOf f.station ≠ .monitor) :
    exec (.liftHold key) s = .next (settle (liftEntry key (liftTaken key s) f e)) := by
  have ⟨htake, hk, _, _⟩ := ho
  have hkind : ofKind kindLiftHold f = true := by simp [ofKind, kindLiftHold, hk]
  have hrequest : liftRequest key f (popped s) = liftEntry key (liftTaken key s) f e :=
    liftRequest_found (s := popped s) key hv hm (find_id_of_holdsLawful hl he hid)
  have harm : exec (.liftHold key) s = event (taking (ofKind kindLiftHold) (liftRequest key)) s := rfl
  rw [harm, event_running (takeable_inReset htake), taking_offered ho hkind, hrequest]

theorem liftEntry_of_owner {key : Bool} {s : State} {f : RxFrame} {e : HoldEntry} (hr : e.kind ≠ .restart)
    (ho : e.owner = f.station) : liftEntry key s f e = ownerLift s f e := by
  simp [liftEntry, hr, ho]

theorem liftEntry_of_mayLift {key : Bool} {s : State} {f : RxFrame} {e : HoldEntry} (ho : e.owner ≠ f.station)
    (hm : MayLift key f e) : liftEntry key s f e = wholeLift s f e := by
  obtain ⟨hb, hr | ⟨hl, hk⟩⟩ := hm
  · simp [liftEntry, hr, hb]
  · simp [liftEntry, hl, hb, hk, ho.symm]

theorem liftEntry_of_not_mayLift {key : Bool} {s : State} {f : RxFrame} {e : HoldEntry} (ho : e.owner ≠ f.station)
    (hm : ¬ MayLift key f e) : liftEntry key s f e = notOwner s f e := by
  by_cases hr : e.kind = .restart
  · have hb : roleOf f.station ≠ .bridge := fun hb => hm ⟨hb, .inl hr⟩
    simp [liftEntry, hr, hb]
  · by_cases hl : e.kind = .lockout
    · simp [liftEntry, hl, ho.symm]
    · have hb : ¬ (roleOf f.station = .bridge ∧ key = true) := fun ⟨hb, hk⟩ => hm ⟨hb, .inr ⟨hl, hk⟩⟩
      simp [liftEntry, hr, hl, ho.symm, hb]

/-! ### The outcomes of a lift -/

/-- A whole lift removes the entry, answers, and takes up the hatches of its scope. -/
theorem wholeLift_eq (s : State) (f : RxFrame) (e : HoldEntry) :
    wholeLift s f e = (allHatches.filter e.covers).foldr (fun h s => takeUp s h)
      (reply (withoutEntry s e) f .ok [byteOf e.id, 0]) := by
  rw [withoutEntry, ← retain_reply]
  rfl

/-- Beyond what its hand-offs work on, a whole lift removes the entry and nothing else. -/
theorem settle_wholeLift_sameElsewhere (s : State) (f : RxFrame) (e : HoldEntry) :
    SameElsewhere (withoutEntry s e) (settle (wholeLift s f e)) :=
  sameElsewhere_of_outer (by rw [settle_outer, wholeLift_eq, foldr_takeUp, push_outer, reply_outer])

/-- The answer to a whole lift is the first frame that it sends. -/
theorem settle_wholeLift_tx (s : State) (f : RxFrame) (e : HoldEntry) :
    ∃ xs, (settle (wholeLift s f e)).link.tx = s.link.tx ++ answerFrame f .ok [byteOf e.id, 0] :: xs := by
  obtain ⟨xs, hx⟩ := settle_onlySends (wholeLift s f e)
  refine ⟨xs, ?_⟩
  rw [hx, wholeLift_eq, foldr_takeUp]
  simp

/-- Where nothing waits in its scope, a whole lift removes the entry, answers, and does no more. -/
theorem settle_wholeLift_nothingWaits {s : State} {f : RxFrame} {e : HoldEntry} (ha : s.agenda = [])
    (hw : ∀ h, e.covers h = true → NothingWaits s h) :
    settle (wholeLift s f e) = reply (withoutEntry s e) f .ok [byteOf e.id, 0] := by
  rw [wholeLift_eq]
  refine settle_takeUps_nothing (by simpa using ha) (List.length_filter_le _ _) ?_
  intro h hh
  exact nothingWaits_congr (by simp) (by simp) (hw h (List.mem_filter.mp hh).2)

/-- A NOT_OWNER answer hands nothing on. -/
theorem settle_notOwner {s : State} {f : RxFrame} {e : HoldEntry} (ha : s.agenda = []) :
    settle (notOwner s f e) = notOwner s f e := settle_nil (by simpa [notOwner] using ha)

/-- The owner's lift of a count above 1 lowers the count at its position and answers what remains (R40). -/
theorem settle_ownerLift_lowers {s : State} {f : RxFrame} {e : HoldEntry} (hl : HoldsLawful s)
    (he : e ∈ s.holds.entries) (ha : s.agenda = []) (hc : 1 < e.count) :
    settle (ownerLift s f e) = reply
      (retain { s with holds := { s.holds with
        entries := s.holds.entries.map fun x => if x.id = e.id then { x with count := x.count - 1 } else x } } .holds)
      f .ok [byteOf e.id, byteOf (e.count - 1)] := by
  have hmap : (s.holds.entries.map fun x => if x.id = e.id then { x with count := e.count - 1 } else x) =
      s.holds.entries.map fun x => if x.id = e.id then { x with count := x.count - 1 } else x := by
    refine List.map_congr_left fun x hx => ?_
    split
    · rename_i hid
      rw [eq_of_holdsLawful_of_id hl hx he hid]
    · rfl
  rw [settle_nil (by simpa [ownerLift, hc, recount] using ha), ownerLift, if_pos hc, recount, hmap]

/-- The owner's lift of the last count is a whole lift (R40, R42). -/
theorem ownerLift_last {s : State} {f : RxFrame} {e : HoldEntry} (hc : e.count = 1) :
    ownerLift s f e = wholeLift s f e := by
  simp [ownerLift, wholeLift, hc]

end Sys2Proof.Machine

/-! ### The statements -/

namespace Sys2Proof.HoldLifts
open Sys2Proof Sys2Proof.Machine Sys2Proof.Safety

/-- Settles O21: the request goes to the owner's lift, which lowers the count or, at the last one, lifts the entry whole. -/
theorem ownerLiftLowersCount : Obligations.OwnerLiftLowersCount := by
  intro s f e key hl ho hv he hid hr howner hm
  have hexec : exec (.liftHold key) s = .next (settle (ownerLift (liftTaken key s) f e)) := by
    rw [exec_liftHold_found key hl ho hv he hid hm, liftEntry_of_owner hr howner]
  have hagenda : (liftTaken key s).agenda = [] := liftTaken_agenda ho
  refine ⟨fun hc => ?above, fun hc => ?last⟩
  case above =>
    rw [hexec, settle_ownerLift_lowers (s := liftTaken key s) hl he hagenda hc]
    rfl
  case last =>
    rw [ownerLift_last hc] at hexec
    exact ⟨_, hexec, settle_wholeLift_sameElsewhere _ f e, settle_wholeLift_tx _ f e,
      fun hw => settle_wholeLift_nothingWaits hagenda hw⟩

/-- Settles O22: a station that may lift lifts the entry whole, and any other is answered NOT_OWNER, which hands nothing on. -/
theorem overrideLiftRemovesWhole : Obligations.OverrideLiftRemovesWhole := by
  intro s f e key hl ho hv he hid howner hm
  have hexec := exec_liftHold_found key hl ho hv he hid hm
  refine ⟨fun hmay => ?may, fun hmay => ?mayNot⟩
  case may =>
    rw [liftEntry_of_mayLift howner hmay] at hexec
    exact ⟨_, hexec, settle_wholeLift_tx _ f e, settle_wholeLift_sameElsewhere _ f e⟩
  case mayNot =>
    rw [hexec, liftEntry_of_not_mayLift howner hmay, settle_notOwner (liftTaken_agenda ho)]
    rfl

end Sys2Proof.HoldLifts
end

section
/-!
What every hand-off and every command keeps, said once. `HandoffsKeep P` lists the few changes that hand-offs are made of and
that a predicate `P` must survive; `HandoffsKeep.onSettle` concludes that `P` survives all hand-offs of an event. The index
of `P` is a set of hatches that are exempt for the moment: those whose securing verdict has still to be decided afresh (R18).
-/

namespace Sys2Proof.Machine
open Sys2Proof Sys2Proof.Safety

/-- A hand-off that is not the verdict change of a cleat (R8). -/
def Task.isInner : Task → Bool
  | .cleatChange _ _ _ => false
  | _ => true

/-- A record that no reclamp has had to do with (R15). -/
def CleatRec.Untouched (r : CleatRec) : Prop := r.tries = 0 ∧ r.wanted = .no ∧ r.lost = false

/-- The predicate survives each change that a hand-off other than a cleat's verdict change is made of. -/
structure InnerKeep (P : Set Hatch → State → Prop) : Prop where
  /-- more hatches may be exempt -/
  mono {S T : Set Hatch} {s : State} : S ⊆ T → P S s → P T s
  onEvents {S : Set Hatch} {s : State} (ts : List Task) : ts.all Task.isInner = true → P S s → P S (s.push ts)
  /-- a change of a context that keeps the hatch's state -/
  onCtx {S : Set Hatch} {s : State} {h : Hatch} {f : HatchCtx → HatchCtx} :
    (f (s.ctx h)).state = (s.ctx h).state → P S s → P S (s.updCtx h f)
  /-- any change of a context leaves the verdict of that hatch to be decided afresh -/
  onState {S : Set Hatch} {s : State} {h : Hatch} (f : HatchCtx → HatchCtx) : P S s → P (insert h S) (s.updCtx h f)
  onJudged {S : Set Hatch} {s : State} (h : Hatch) : P S s → P (S \ {h}) (judged s h)
  onReclampEvent {S : Set Hatch} {s : State} {h : Hatch} {f : CleatRec → CleatRec} : (∀ r, (f r).steady = r.steady) →
    (∀ r, r.tries ≤ 3 → (f r).tries ≤ 3) → (∀ r : CleatRec, r.Untouched → f r = r) → P S s → P S (reclampEvent s h f)
  onChannel {S : Set Hatch} {s : State} {h : Hatch} {c : Channel} {r : ChannelRec} : r.plant = (s.channel h c).plant →
    P S s → P S (s.setChannel h c r)
  onChannels {S : Set Hatch} {s : State} {h : Hatch} {f : Channel → ChannelRec → ChannelRec} :
    (∀ c r, (f c r).plant = r.plant) → P S s → P S (s.updChannels h f)
  onJog {S : Set Hatch} {s : State} (j : Option Jog) : P S s → P S (s.setJog j)
  onAllocate {S : Set Hatch} {s : State} : P S s → P S (allocate s)
  onQueueStep {S : Set Hatch} {s : State} (h : Hatch) (name : StepName) (c : Cls) :
    P S s → P S (queueEntry s h (.step name) c (s.params.stepN name) (s.params.stepM name))
  onTakeLeave {S : Set Hatch} {s : State} (h : Hatch) : P S s → P S (takeLeave s h)
  onTakeReclass {S : Set Hatch} {s : State} (h : Hatch) : P S s → P S (takeReclass s h)
  /-- frames join the transmit list or leave it; what is received stays -/
  onLink {S : Set Hatch} {s : State} {l : Link} : l.rx = s.link.rx → l.stations = s.link.stations → P S s →
    P S { s with link := l }

/-- The predicate survives each change that a hand-off is made of. -/
structure HandoffsKeep (P : Set Hatch → State → Prop) : Prop extends InnerKeep P where
  onAgenda {S : Set Hatch} {s : State} (ts : List Task) : P S s → P S { s with agenda := ts }
  onSlot {S : Set Hatch} {s : State} {id : CleatId} {r r' : CleatRec} : s.slot id = some r → r'.steady = r.steady →
    r'.tries = r.tries → P S s → P S (s.setSlot id (some r'))
  onEvents ts _ hp := onAgenda (ts ++ _) hp

namespace InnerKeep
variable {P : Set Hatch → State → Prop} {S : Set Hatch} {s : State}

/-! ### The operations of Ops and Sequencer -/

theorem onPush (k : InnerKeep P) (ts : List Task) (hp : P S s) (hts : ts.all Task.isInner = true := by rfl) : P S (s.push ts) :=
  k.onEvents ts hts hp

theorem onReclass (k : InnerKeep P) (h : Hatch) (hp : P S s) : P S (reclass s h) := by
  simp only [reclass]
  repeat' split
  · exact hp
  · exact hp
  · exact k.onPush _ (k.onCtx rfl hp)

theorem onClearMark (k : InnerKeep P) (h : Hatch) (hp : P S s) : P S (clearMark s h) := by
  simp only [clearMark]
  split
  · exact k.onReclass _ (k.onPush _ (k.onCtx rfl hp))
  · exact hp

/-- Rejudging a hatch ends its exemption. -/
theorem onRejudge (k : InnerKeep P) (h : Hatch) (hp : P S s) : P (S \ {h}) (rejudge s h) := by
  have hj : P (S \ {h}) (judged s h) := k.onJudged h hp
  simp only [rejudge]
  split
  · rename_i hv
    simp only [Bool.and_eq_true, decide_eq_true_eq] at hv
    obtain ⟨hverdict, hreason⟩ := hv
    have : judged s h = s := by simp [judged, hverdict, hreason]
    rwa [this] at hj
  · split
    · exact k.onClearMark h hj
    · exact hj

theorem onRejudge' (k : InnerKeep P) (h : Hatch) (hp : P S s) : P S (rejudge s h) :=
  k.mono Set.sdiff_subset (k.onRejudge h hp)

theorem onRejudged (k : InnerKeep P) {h : Hatch} (hp : P (insert h S) s) : P S (rejudge s h) :=
  k.mono (Set.sdiff_singleton_subset_iff.mpr subset_rfl) (k.onRejudge h hp)

theorem onEnterState (k : InnerKeep P) (h : Hatch) (st : HatchState) (c : Option HeldCause) (n : Option NextState)
    (hp : P S s) : P S (enterState s h st c n) := k.onRejudged (k.onState _ hp)

theorem onEnterHeld (k : InnerKeep P) (h : Hatch) (c : HeldCause) (hp : P S s) : P S (enterHeld s h c) :=
  k.onEnterState _ _ _ _ hp

theorem onEnterStopping (k : InnerKeep P) (h : Hatch) (n : NextState) (hp : P S s) : P S (enterStopping s h n) := by
  simp only [enterStopping]
  split
  · exact k.onPush _ (k.onEnterState _ _ _ _ hp)
  · exact k.onEnterState _ _ _ _ hp

theorem onWriteTargets (k : InnerKeep P) (h : Hatch) (hp : P S s) : P S (writeTargets s h) :=
  k.onChannels (fun c r => by split <;> rfl) hp

theorem onSyncStall (k : InnerKeep P) (h : Hatch) (hp : P S s) : P S (syncStall s h) := k.onCtx rfl hp

theorem onDropStep (k : InnerKeep P) (h : Hatch) (hp : P S s) : P S (dropStep s h) := k.onWriteTargets h (k.onCtx rfl hp)

theorem onRemoveEntry (k : InnerKeep P) (h : Hatch) (hp : P S s) : P S (removeEntry s h) := k.onPush _ hp

theorem onWithdraw (k : InnerKeep P) (h : Hatch) (hp : P S s) : P S (withdraw s h) := by
  simp only [withdraw]
  split
  · exact k.onRemoveEntry h (k.onDropStep h hp)
  · exact hp

/-! ### The reclamp events (R15) -/

theorem onReclampStarted (k : InnerKeep P) (h : Hatch) (hp : P S s) : P S (reclampEvent s h .reclampStarted) :=
  k.onReclampEvent (fun r => by simp only [CleatRec.reclampStarted]; split <;> rfl)
    (fun r hr => by simp only [CleatRec.reclampStarted]; split <;> simp_all)
    (fun r ⟨_, hw, _⟩ => by simp [CleatRec.reclampStarted, hw]) hp

theorem onReclampDone (k : InnerKeep P) (h : Hatch) (hp : P S s) : P S (reclampEvent s h .reclampDone) :=
  k.onReclampEvent (fun r => by simp only [CleatRec.reclampDone]; split <;> rfl)
    (fun r hr => by simp only [CleatRec.reclampDone]; split <;> exact hr)
    (fun r ⟨_, hw, _⟩ => by simp [CleatRec.reclampDone, hw]) hp

theorem onReclampTimedOut (k : InnerKeep P) (h : Hatch) (hp : P S s) : P S (reclampEvent s h .reclampTimedOut) :=
  k.onReclampEvent (fun r => by simp only [CleatRec.reclampTimedOut]; split <;> rfl)
    (fun r hr => by simp only [CleatRec.reclampTimedOut]; split <;> exact hr)
    (fun r ⟨_, hw, _⟩ => by simp [CleatRec.reclampTimedOut, hw]) hp

theorem onReclampKept (k : InnerKeep P) (h : Hatch) (hp : P S s) : P S (reclampEvent s h .reclampKept) :=
  k.onReclampEvent (fun r => by simp only [CleatRec.reclampKept]; split <;> rfl)
    (fun r hr => by simp only [CleatRec.reclampKept]; split <;> exact hr)
    (fun r ⟨_, hw, _⟩ => by simp [CleatRec.reclampKept, hw]) hp

theorem onReclampAbandoned (k : InnerKeep P) (h : Hatch) (hp : P S s) : P S (reclampEvent s h .reclampAbandoned) :=
  k.onReclampEvent (fun r => by simp only [CleatRec.reclampAbandoned]; split <;> rfl)
    (fun r hr => by simp only [CleatRec.reclampAbandoned]; split <;> exact hr)
    (fun r ⟨_, hw, _⟩ => by simp [CleatRec.reclampAbandoned, hw]) hp

theorem onWantedCleared (k : InnerKeep P) (h : Hatch) (hp : P S s) : P S (reclampEvent s h .wantedCleared) :=
  k.onReclampEvent (fun _ => rfl) (fun _ hr => hr)
    (fun r ⟨_, hw, _⟩ => by simp only [CleatRec.wantedCleared, ← hw]) hp

theorem onTriesReset (k : InnerKeep P) (h : Hatch) (hp : P S s) : P S (reclampEvent s h .triesReset) :=
  k.onReclampEvent (fun _ => rfl) (fun _ _ => Nat.zero_le _)
    (fun r ⟨ht, _, _⟩ => by simp only [CleatRec.triesReset, ← ht]) hp

/-! ### Steps -/

theorem onComplete (k : InnerKeep P) (h : Hatch) (name : StepName) (hp : P S s) : P S (complete s h name) := by
  have hd : P S (dropStep s h) := k.onDropStep h hp
  cases name
  case release => exact k.onRemoveEntry h (k.onPush _ (k.onWantedCleared h (k.onTriesReset h hd)))
  case engage => exact k.onRemoveEntry h (k.onPush _ (k.onWantedCleared h hd))
  case reclamp => exact k.onRemoveEntry h (k.onPush _ (k.onReclampDone h hd))
  all_goals exact k.onRemoveEntry h (k.onPush _ hd)

theorem onDoneTest (k : InnerKeep P) (h : Hatch) (hp : P S s) : P S (doneTest s h) := by
  simp only [doneTest]
  repeat' split
  · exact k.onComplete _ _ hp
  · exact hp
  · exact hp

theorem onJoinStep (k : InnerKeep P) (h : Hatch) (name : StepName) (hp : P S s) : P S (joinStep s h name) := by
  simp only [joinStep]
  split
  · exact k.onCtx rfl hp
  · exact k.onQueueStep h name _ (k.onCtx rfl hp)

theorem onJoinInPlace (k : InnerKeep P) (h : Hatch) (name : StepName) (hp : P S s) : P S (joinInPlace s h name) := by
  simp only [joinInPlace]
  split
  · exact k.onJoinStep h name hp
  · exact k.onRemoveEntry h (k.onPush _ (k.onDropStep h hp))

theorem onJoinOrHold (k : InnerKeep P) (h : Hatch) (name : StepName) (hp : P S s) : P S (joinOrHold s h name) := by
  simp only [joinOrHold]
  repeat' split
  · exact k.onEnterHeld _ _ hp
  · exact k.onEnterHeld _ _ hp
  · exact k.onJoinStep _ _ hp

theorem onSquallTry (k : InnerKeep P) (h : Hatch) (hp : P S s) : P S (squallTry s h) := by
  simp only [squallTry]
  split
  · split
    · exact k.onJoinInPlace _ _ (k.onEnterState _ _ _ _ (k.onReclampKept h hp))
    · exact k.onJoinInPlace _ _ (k.onEnterState _ _ _ _ hp)
  · exact hp

theorem onReclampTest (k : InnerKeep P) (h : Hatch) (hp : P S s) : P S (reclampTest s h) := by
  simp only [reclampTest]
  split
  · exact k.onJoinStep _ _ hp
  · exact hp

theorem onTakeUp (k : InnerKeep P) (h : Hatch) (hp : P S s) : P S (takeUp s h) := k.onPush _ hp

theorem onBoundary (k : InnerKeep P) (h : Hatch) (name : StepName) (hp : P S s) : P S (boundary s h name) := by
  cases name
  case park => exact k.onEnterState _ _ _ _ hp
  case engage => exact k.onPush _ (k.onEnterState _ _ _ _ hp)
  case reclamp => exact k.onReclampTest h hp
  all_goals exact k.onJoinOrHold _ _ hp

theorem onStoppingEnd (k : InnerKeep P) (h : Hatch) (hp : P S s) : P S (stoppingEnd s h) := by
  simp only [stoppingEnd]
  repeat' split
  · exact k.onEnterHeld _ _ hp
  · exact k.onJoinOrHold _ _ (k.onEnterState _ _ _ _ hp)
  · exact hp
  · exact hp

theorem onFaultHatch (k : InnerKeep P) (h : Hatch) (c : FaultCause) (hp : P S s) : P S (faultHatch s h c) := by
  have hcause : ∀ {u : State}, P S u →
      P S (u.updCtx h fun x => { x with faults := withCause x.faults c, lastFault := some c }) := fun hu => k.onCtx rfl hu
  refine hcause ?_
  split
  · exact hp
  · refine k.onEnterState _ _ _ _ ?_
    split
    · exact k.onReclampKept h (k.onWithdraw h hp)
    · exact k.onWithdraw h hp

theorem onStopStep (k : InnerKeep P) (h : Hatch) (n : NextState) (hp : P S s) : P S (stopStep s h n) :=
  k.onRemoveEntry h (k.onEnterStopping h n (k.onDropStep h hp))

theorem onTripHatch (k : InnerKeep P) (h : Hatch) (hp : P S s) : P S (tripHatch s h) := by
  simp only [tripHatch]
  split
  case h_4 =>
    split
    · exact k.onReclampKept h (k.onWithdraw h hp)
    · exact hp
  case h_3 => exact k.onEnterHeld _ _ hp
  case h_1 | h_2 => exact k.onEnterHeld _ _ (k.onWithdraw h hp)
  all_goals exact hp

/-! ### Derivation -/

theorem onDerive (k : InnerKeep P) (h : Hatch) (c : HeldCause) (hp : P S s) : P S (derive s h c) :=
  k.onEnterState _ _ _ _ (k.onCtx rfl hp)

theorem onDeriveIfReady (k : InnerKeep P) (h : Hatch) (hp : P S s) : P S (deriveIfReady s h) := by
  simp only [deriveIfReady]
  split
  · exact k.onPush _ (k.onDerive h _ hp)
  · exact hp

/-! ### What the Arbiter hands on -/

theorem onTakeGrant (k : InnerKeep P) (h : Hatch) (g : Grant) (hp : P S s) : P S (takeGrant s h g) := by
  simp only [takeGrant]
  repeat' split
  · exact hp
  · exact k.onWriteTargets h (k.onReclampStarted h (k.onCtx rfl hp))
  · exact k.onWriteTargets h (k.onCtx rfl hp)
  · exact hp

theorem onTakeActivated (k : InnerKeep P) (h : Hatch) (hp : P S s) : P S (takeActivated s h) := by
  simp only [takeActivated]
  repeat' split
  · exact hp
  · exact k.onFaultHatch _ _ hp
  · exact k.onStopStep _ _ hp
  · exact k.onDoneTest _ hp
  · exact hp

theorem onTakeShed (k : InnerKeep P) (h : Hatch) (hp : P S s) : P S (takeShed s h) := by
  simp only [takeShed]
  repeat' split
  · exact k.onWriteTargets h (k.onCtx rfl hp)
  · exact hp
  · exact hp

theorem onTakeShare (k : InnerKeep P) (h : Hatch) (g : Grant) (hp : P S s) : P S (takeShare s h g) := by
  simp only [takeShare]
  repeat' split
  · exact k.onWriteTargets h (k.onCtx rfl hp)
  · exact hp
  · exact hp

/-! ### Sensed events at the Sequencer -/

theorem onTakePosition (k : InnerKeep P) (h : Hatch) (p : Panel) (b : Bool) (hp : P S s) :
    P S (takePosition s h p b) := by
  have hr : P S (rejudge s h) := k.onRejudge' h hp
  simp only [takePosition]
  split
  · exact k.onFaultHatch _ _ hr
  · split
    · exact k.onFaultHatch _ _ hr
    · have hd : P S (deriveIfReady (rejudge s h) h) := k.onDeriveIfReady h hr
      split <;> split
      · exact k.onDoneTest _ (k.onWriteTargets _ (k.onSyncStall _ (k.onCtx rfl (k.onPush _ hd))))
      · exact k.onSyncStall _ (k.onCtx rfl (k.onPush _ hd))
      · exact k.onDoneTest _ (k.onWriteTargets _ (k.onSyncStall _ (k.onCtx rfl hd)))
      · exact k.onSyncStall _ (k.onCtx rfl hd)

theorem onTakeJack (k : InnerKeep P) (h : Hatch) (p : Panel) (hp : P S s) : P S (takeJack s h p) := by
  have hr : P S (rejudge s h) := k.onRejudge' h hp
  simp only [takeJack]
  split
  · exact k.onFaultHatch _ _ hr
  · split
    · exact k.onDoneTest _ (k.onPush _ (k.onDeriveIfReady h hr))
    · exact k.onDoneTest _ (k.onDeriveIfReady h hr)

theorem onTakeHeelWind (k : InnerKeep P) (h : Hatch) (hp : P S s) : P S (takeHeelWind s h) := by
  simp only [takeHeelWind]
  repeat' split
  · exact hp
  · exact k.onStopStep _ _ hp
  · exact k.onWriteTargets h hp
  · exact hp
  · exact k.onQueueStep h _ _ (k.onCtx rfl hp)
  · exact hp
  · exact hp
  · exact hp

/-! ### The jog -/

theorem onWriteJog (k : InnerKeep P) (hp : P S s) : P S (writeJog s) := by
  simp only [writeJog]
  repeat' split
  · exact hp
  · exact k.onChannel rfl hp
  · exact hp

theorem onRefreshJog (k : InnerKeep P) (hp : P S s) : P S (refreshJog s) := by
  simp only [refreshJog]
  repeat' split
  · exact k.onWriteJog hp
  · exact hp
  · exact hp

theorem onJogRelease (k : InnerKeep P) (hp : P S s) : P S (jogRelease s) := by
  simp only [jogRelease]
  repeat' split
  · exact hp
  · exact k.onRemoveEntry _ (k.onTakeUp _ (k.onJog none (k.onChannel rfl hp)))
  · exact k.onRemoveEntry _ (k.onTakeUp _ (k.onJog none hp))

theorem onJogReleaseIfRest (k : InnerKeep P) (hp : P S s) : P S (jogReleaseIfRest s) := by
  simp only [jogReleaseIfRest]
  repeat' split
  · exact hp
  · exact k.onJogRelease hp
  · exact hp

theorem onJogEnd (k : InnerKeep P) (hp : P S s) : P S (jogEnd s) := by
  simp only [jogEnd]
  repeat' split
  · exact hp
  · exact k.onJogRelease hp
  · exact k.onJogRelease (k.onJog _ hp)
  · exact k.onWriteJog (k.onRemoveEntry _ (k.onJog _ hp))
  · exact k.onJogReleaseIfRest (k.onWriteJog (k.onJog _ hp))
  · exact k.onJogReleaseIfRest hp

theorem onJogEndOn (k : InnerKeep P) (h : Hatch) (hp : P S s) : P S (jogEndOn s h) := by
  simp only [jogEndOn]
  split
  · exact k.onJogEnd hp
  · exact hp

theorem onJogEndInvalid (k : InnerKeep P) (h : Hatch) (p : Panel) (hp : P S s) : P S (jogEndInvalid s h p) := by
  simp only [jogEndInvalid]
  repeat' split
  · exact k.onJogEnd hp
  · exact hp
  · exact hp

theorem onTakeJogGrant (k : InnerKeep P) (hp : P S s) : P S (takeJogGrant s) := by
  simp only [takeJogGrant]
  repeat' split
  · exact hp
  · exact k.onWriteJog (k.onChannel rfl (k.onJog _ hp))
  · exact hp

theorem onTakeJogShed (k : InnerKeep P) (hp : P S s) : P S (takeJogShed s) := by
  simp only [takeJogShed]
  repeat' split
  · exact hp
  · exact k.onWriteJog (k.onJog _ hp)
  · exact k.onRemoveEntry _ hp
  · exact hp
  · exact hp

theorem onTakeOpenCoil (k : InnerKeep P) (h : Hatch) (c : Channel) (hp : P S s) : P S (takeOpenCoil s h c) := by
  have fault : ∀ {u : State}, P S u → P S (if (u.ctx h).state.isMoving then faultHatch u h .valve else u) := by
    intro u hu
    split
    · exact k.onFaultHatch _ _ hu
    · exact hu
  refine fault ?_
  repeat' split
  · exact k.onJogEnd hp
  · exact hp
  · exact hp

theorem onTakeStuckOn (k : InnerKeep P) (h : Hatch) (c : Channel) (hp : P S s) : P S (takeStuckOn s h c) :=
  k.onFaultHatch _ _ (k.onJogEndOn h hp)

/-! ### Answers and hand-offs -/

theorem onSend (k : InnerKeep P) (t : TxFrame) (hp : P S s) : P S (send s t) := k.onLink rfl rfl hp

theorem onReply (k : InnerKeep P) (f : RxFrame) (c : Code) (d : List Byte) (hp : P S s) : P S (reply s f c d) :=
  k.onSend _ hp

theorem onReplyStanding (k : InnerKeep P) (f : RxFrame) (c : Code) (x : Nat) (hp : P S s) :
    P S (replyStanding s f c x) := k.onReply f c _ hp

/-- Every hand-off but a cleat's verdict change keeps the predicate. -/
theorem onInnerTask (k : InnerKeep P) (t : Task) (ht : t.isInner = true) (hp : P S s) : P S (runTask t s) := by
  cases t
  case allocate => exact k.onAllocate hp
  case leave h => exact k.onTakeLeave h hp
  case reclass h => exact k.onTakeReclass h hp
  case grant h g => exact k.onTakeGrant h g hp
  case shed h => exact k.onTakeShed h hp
  case reshare h g => exact k.onTakeShare h g hp
  case activated h => exact k.onTakeActivated h hp
  case jogGrant => exact k.onTakeJogGrant hp
  case jogShed => exact k.onTakeJogShed hp
  case join h name => exact k.onJoinStep h name hp
  case boundary h done => exact k.onBoundary h done hp
  case doneTest h => exact k.onDoneTest h hp
  case cleatChange id old new => cases ht
  case position h p b => exact k.onRefreshJog (k.onJogEndInvalid h p (k.onTakePosition h p b hp))
  case jack h p => exact k.onTakeJack h p hp
  case heelWind h => exact k.onTakeHeelWind h hp
  case squallTry h => exact k.onSquallTry h hp
  case reclampTest h => exact k.onReclampTest h hp
  case stoppingEnd h => exact k.onStoppingEnd h hp
  case openCoil h c => exact k.onTakeOpenCoil h c hp
  case stuckOn h c => exact k.onTakeStuckOn h c hp
  case answer f c x => exact k.onReplyStanding f c x hp

/-- A predicate by which only such hand-offs wait survives all hand-offs of an event. -/
theorem onInnerSettle (k : InnerKeep P)
    (hpop : ∀ {s : State} {t : Task} {ts : List Task}, s.agenda = t :: ts → P S s → t.isInner = true ∧ P S { s with agenda := ts })
    (hp : P S s) : P S (settle s) := by
  have hdrain : ∀ (n : Nat) {s : State}, P S s → P S (drain n s) := by
    intro n
    induction n with
    | zero => exact fun hp => hp
    | succ n ih =>
      intro s hp
      simp only [drain]
      split
      · exact hp
      · rename_i t ts ha
        obtain ⟨ht, hrest⟩ := hpop ha hp
        exact ih (k.onInnerTask t ht hrest)
  exact hdrain 4096 hp

end InnerKeep

namespace HandoffsKeep
variable {P : Set Hatch → State → Prop} {S : Set Hatch} {s : State}

theorem onPush (k : HandoffsKeep P) (ts : List Task) (hp : P S s) : P S (s.push ts) := k.onAgenda _ hp

/-! ### The verdict change of a cleat (R8, R153) -/

theorem onReclampTrigger (k : HandoffsKeep P) (id : CleatId) (old new : CleatVerdict) (hp : P S s) :
    P S (reclampTrigger s id old new) := by
  simp only [reclampTrigger]
  split
  · exact hp
  · rename_i r hr
    repeat' split
    · exact k.onPush _ (k.onSlot hr rfl rfl hp)
    · exact k.onSlot hr rfl rfl hp
    · exact hp

theorem onTakeCleatChange (k : HandoffsKeep P) (id : CleatId) (old new : CleatVerdict) (hp : P S s) :
    P S (takeCleatChange s id old new) := by
  simp only [takeCleatChange]
  split
  · exact k.onDoneTest _ (k.onReclampTrigger _ _ _ (k.onPush _ hp))
  · exact k.onDoneTest _ (k.onReclampTrigger _ _ _ hp)

/-- Every hand-off keeps the predicate. -/
theorem onTask (k : HandoffsKeep P) (t : Task) (hp : P S s) : P S (runTask t s) := by
  cases ht : t.isInner
  · cases t
    case cleatChange id old new => exact k.onTakeCleatChange id old new hp
    all_goals cases ht
  · exact k.onInnerTask t ht hp

theorem onDrain (k : HandoffsKeep P) (n : Nat) (hp : P S s) : P S (drain n s) := by
  induction n generalizing s with
  | zero => exact hp
  | succ n ih =>
    simp only [drain]
    split
    · exact hp
    · rename_i t ts _
      exact ih (k.onTask t (k.onAgenda ts hp))

/-- The hand-offs of an event keep the predicate. -/
theorem onSettle (k : HandoffsKeep P) (hp : P S s) : P S (settle s) := k.onDrain _ hp

end HandoffsKeep
end Sys2Proof.Machine
end

section
/-!
What every command keeps, said once. `CommandsKeep P` adds to `HandoffsKeep P` the changes that the commands themselves make;
`CommandsKeep.exec` concludes that `P` survives every command but the four that have no general form: RESET, START_UP,
DRIVE_UPDATE and LOOP_OPENS.
-/

namespace Sys2Proof.Machine
open Sys2Proof Sys2Proof.Safety

/-- The counts of a cleat record lie in their ranges (R2, R15). -/
def CleatRec.Ranged (r : CleatRec) : Prop := r.tries ≤ 3 ∧ r.faultCount ≤ 255 ∧ r.history.length ≤ 8

/-- The predicate survives each change that a command makes of itself. -/
structure CommandsKeep (P : Set Hatch → State → Prop) : Prop extends HandoffsKeep P where
  onPopped {S : Set Hatch} {s : State} : P S s → P S (popped s)
  onKeys {S : Set Hatch} {s : State} (o k : Bool) : P S s → P S { s with keyOverride := o, keyService := k }
  onRetain {S : Set Hatch} {s : State} (i : RetItem) : P S s → P S (retain s i)
  onRetentionWrite {S : Set Hatch} {s : State} {w : RetWrite} : s.retention.underWay = some w → P S s →
    P S (nextWrite { s with retention := s.retention.committed w })
  /-- a record of the table is replaced -/
  onRecord {S : Set Hatch} {s : State} {id : CleatId} {x : Option CleatRec} :
    (∀ r', x = some r' → (∀ r, s.slot id = some r → r.Ranged) → r'.Ranged) → P S s →
    P (insert (cleatHatch id) S) (s.setSlot id x)
  /-- the records of one hatch change -/
  onRecords {S : Set Hatch} {s : State} {h : Hatch} {f : CleatId → CleatRec → CleatRec} :
    (∀ id r, r.Ranged → (f id r).Ranged) → P S s →
    P (insert h S) { s with table := { s.table with
      slots := Tbl.build fun id => if cleatHatch id = h then (s.slot id).map (f id) else s.slot id } }
  onTableBuilt {S : Set Hatch} {s : State} (p : Image) : P S s →
    P Set.univ { s with table := { s.table with
      slots := Tbl.build fun id => restoredSlot (s.retention.cleats.get id) (builtSlot p id) } }
  /-- the Configuration Store changes; the hatches of `T` may see another stop band or allowance -/
  onStore {S T : Set Hatch} {s : State} {st : Store} : st.copy = s.store.copy ∨ st.copy.sound = true →
    (∀ h ∉ T, ({ s with store := st } : State).params.band = s.params.band ∧
      ({ s with store := st } : State).params.allowance h = s.params.allowance h) →
    P S s → P (S ∪ T) { s with store := st }
  onPump {S : Set Hatch} {s : State} {k : PumpId} {p : Pump} : (p.state = .starting → (s.pump k).state = .starting) →
    P S s → P S (s.setPump k p)
  onAvailable {S : Set Hatch} {s : State} (n : Nat) : P S s →
    P S (allocate { s with supply := { s.supply with available := n } })
  onSupply {S : Set Hatch} {s : State} {x : Supply} : x.pumps = s.supply.pumps → x.available = s.supply.available →
    P S s → P S { s with supply := x }
  onTimers {S : Set Hatch} {s : State} {a : Arbiter} : a.pending = s.arbiter.pending → a.granted = s.arbiter.granted →
    P S s → P S { s with arbiter := a }
  onQueueJog {S : Set Hatch} {s : State} (h : Hatch) (c : Channel) : P S s → P S (queueEntry s h (.jog c) .normal 40 40)
  onStation {S : Set Hatch} {s : State} {n : StationId} (r : Station) :
    (13 < n.val → (s.station n).present = true ∨ (s.station n).outstanding.isSome = true) → P S s → P S (s.setStation n r)
  onMarkEntries {S : Set Hatch} {s : State} (n : StationId) (b : Bool) : P S s → P S (markEntries s n b)
  onJoinFifo {S : Set Hatch} {s : State} (f : RxFrame) : P S s → P S (joinFifo s f)
  onPlaced {S : Set Hatch} {s : State} {n : StationId} {kind : HoldKind} {scope : BitVec 9} {panel : Option Panel}
    (stale : Bool) (placed : Nat) : matching s n kind scope panel = none → s.holds.entries.length < 48 → P S s →
    P S { s with holds :=
      ⟨s.holds.entries ++ [⟨nextId s.holds, n, kind, scope, panel, 1, stale, placed⟩], nextId s.holds⟩ }
  onRecounted {S : Set Hatch} {s : State} {e : HoldEntry} {n : Nat} : e ∈ s.holds.entries →
    (e.count ≠ 15 ∧ n = e.count + 1) ∨ (1 < e.count ∧ n = e.count - 1) → P S s →
    P S { s with holds := { s.holds with
      entries := s.holds.entries.map fun x => if x.id = e.id then { x with count := n } else x } }
  onLifted {S : Set Hatch} {s : State} (e : HoldEntry) : P S s →
    P S { s with holds := { s.holds with entries := s.holds.entries.filter fun x => x.id != e.id } }
  onJunction {S : Set Hatch} {s : State} (h : Hatch) (j : Junction) : P S s → P (insert h S) (s.setJunction h j)
  /-- a junction record changes in fields that no verdict reads -/
  onJunctionKept {S : Set Hatch} {s : State} {h : Hatch} {j : Junction} :
    (j.state = .lost ↔ (s.junctions.get h).state = .lost) →
    (∀ p, (j.panels.get p).position = (s.panel h p).position ∧ (j.panels.get p).jack = (s.panel h p).jack) →
    P S s → P S (s.setJunction h j)
  onAnalog {S : Set Hatch} {s : State} (a : Analog) : P S s → P S { s with analog := a }
  /-- the stop lines change, and no hatch becomes tripped -/
  onStops {S : Set Hatch} {s : State} {x : StopLines} :
    (∀ h, ({ s with stops := x } : State).tripped h = true → s.tripped h = true) → P S s → P S { s with stops := x }
  /-- a channel record changes, and neither its applied command nor its working direction -/
  onChannelLine {S : Set Hatch} {s : State} {h : Hatch} {c : Channel} {r : ChannelRec} :
    r.applied = (s.channel h c).applied → r.working = (s.channel h c).working → P S s → P S (s.setChannel h c r)
  onAckValves {S : Set Hatch} {s : State} (h : Hatch) : P S s → P S (ackValves s h)

namespace CommandsKeep
variable {P : Set Hatch → State → Prop} {S : Set Hatch} {s : State}

/-! ### Taking and answering -/

theorem onTaking (k : CommandsKeep P) {isIt : RxFrame → Bool} {owner : RxFrame → State → State}
    (ho : ∀ f u, isIt f = true → P S u → P S (owner f u)) (hp : P S s) : P S (taking isIt owner s) := by
  simp only [taking]
  split
  · exact hp
  · rename_i f _
    by_cases hi : isIt f = true
    · rw [if_neg (by simp [hi])]
      split
      · exact k.onReplyStanding f _ _ (k.onPopped hp)
      · exact ho f _ hi (k.onPopped hp)
    · rw [if_pos (by simpa using hi)]
      exact hp

/-- A fold over hatches keeps what each of its steps keeps. -/
theorem onFoldr {hs : List Hatch} {f : Hatch → State → State} (hf : ∀ h u, P S u → P S (f h u)) (hp : P S s) :
    P S (hs.foldr f s) := by
  induction hs with
  | nil => exact hp
  | cons h hs ih => exact hf h _ ih

/-- Rejudging every hatch ends every exemption. -/
theorem onRejudgeAll (k : CommandsKeep P) (hp : P S s) : P ∅ (rejudgeAll s) := by
  have step : ∀ hs : List Hatch, P (S \ {h | h ∈ hs}) (hs.foldr (fun h s => rejudge s h) s) := by
    intro hs
    induction hs with
    | nil => exact k.mono (by simp) hp
    | cons h hs ih =>
      refine k.mono ?_ (k.onRejudge h ih)
      intro g hg
      simp only [Set.mem_sdiff, Set.mem_ofPred_eq, Set.mem_singleton_iff, List.mem_cons] at hg ⊢
      tauto
  refine k.mono ?_ (step allHatches)
  intro g hg
  exact absurd (List.mem_finRange g) hg.2

/-! ### LOOK and FIND -/

theorem onAnswerSegment (k : CommandsKeep P) (f : RxFrame) (part : List Byte) (hp : P S s) :
    P S (answerSegment s f part) := by
  simp only [answerSegment]
  split <;> exact k.onReply _ _ _ hp

theorem onAnswerWhole (k : CommandsKeep P) (f : RxFrame) (part : List Byte) (hp : P S s) :
    P S (answerWhole s f part) := by
  simp only [answerWhole]
  split
  · exact k.onAnswerSegment _ _ hp
  · exact k.onReply _ _ _ hp

theorem onLookAnswer (k : CommandsKeep P) {owner : State → RxFrame → State} {f : RxFrame}
    (ho : P S s → P S (owner s f)) (hp : P S s) : P S (lookAnswer owner f s) := by
  simp only [lookAnswer]
  split
  · exact k.onReply _ _ _ hp
  · exact ho hp

theorem onFindAnswer (k : CommandsKeep P) {owner : State → RxFrame → State} {f : RxFrame}
    (ho : P S s → P S (owner s f)) (hp : P S s) : P S (findAnswer owner f s) := by
  simp only [findAnswer]
  split
  · exact k.onReply _ _ _ hp
  · exact ho hp

theorem onLookCleat (k : CommandsKeep P) (f : RxFrame) (hp : P S s) : P S (lookCleatAt s f) := by
  simp only [lookCleatAt]
  repeat' split
  all_goals first | exact k.onReply _ _ _ hp | exact k.onAnswerSegment _ _ hp

theorem onLookHold (k : CommandsKeep P) (f : RxFrame) (hp : P S s) : P S (lookHoldAt s f) := by
  simp only [lookHoldAt]
  repeat' split
  all_goals first | exact k.onReply _ _ _ hp | exact k.onAnswerWhole _ _ hp

theorem onLookHatch (k : CommandsKeep P) (f : RxFrame) (hp : P S s) : P S (lookHatchAt s f) := by
  simp only [lookHatchAt]
  repeat' split
  all_goals first | exact k.onReply _ _ _ hp | exact k.onAnswerSegment _ _ hp

theorem onLookSupply (k : CommandsKeep P) (f : RxFrame) (hp : P S s) : P S (lookSupplyAt s f) := by
  simp only [lookSupplyAt]
  repeat' split
  all_goals first | exact k.onReply _ _ _ hp | exact k.onAnswerWhole _ _ hp

theorem onLookSensing (k : CommandsKeep P) (f : RxFrame) (hp : P S s) : P S (lookSensingAt s f) := by
  simp only [lookSensingAt]
  repeat' split
  all_goals first | exact k.onReply _ _ _ hp | exact k.onAnswerWhole _ _ hp

theorem onLookStation (k : CommandsKeep P) (f : RxFrame) (hp : P S s) : P S (lookStationAt s f) := by
  simp only [lookStationAt]
  split
  · exact k.onAnswerWhole _ _ hp
  · exact k.onReply _ _ _ hp

theorem onLookParam (k : CommandsKeep P) (f : RxFrame) (hp : P S s) : P S (lookParamAt s f) := by
  simp only [lookParamAt]
  split
  · exact k.onAnswerWhole _ _ hp
  · exact k.onReply _ _ _ hp

theorem onFindCleat (k : CommandsKeep P) (f : RxFrame) (hp : P S s) : P S (findCleatAt s f) := by
  simp only [findCleatAt]
  repeat' split
  all_goals exact k.onReply _ _ _ hp

theorem onFindHold (k : CommandsKeep P) (f : RxFrame) (hp : P S s) : P S (findHoldAt s f) := by
  simp only [findHoldAt]
  repeat' split
  all_goals exact k.onReply _ _ _ hp

/-! ### MOVE, HALT, ACK_FAULT and the timers of a step -/

theorem onAcceptMove (k : CommandsKeep P) (h : Hatch) (opening : Bool) (t : StepName) (hp : P S s) :
    P S (acceptMove s h opening t) := by
  refine k.onJoinInPlace _ _ (k.onEnterState _ _ _ _ ?_)
  split
  · exact k.onWantedCleared h hp
  · exact hp

theorem onMoveHatch (k : CommandsKeep P) (f : RxFrame) (h : Hatch) (opening : Bool) (hp : P S s) :
    P S (moveHatch f h opening s) := by
  simp only [moveHatch]
  repeat' split
  · exact k.onAcceptMove _ _ _ (k.onPush _ hp)
  · exact k.onEnterState _ _ _ _ (k.onPush _ hp)
  · exact k.onPush _ hp
  · exact k.onPush _ hp

theorem onMoveRequest (k : CommandsKeep P) (f : RxFrame) (hp : P S s) : P S (moveRequest f s) := by
  simp only [moveRequest]
  repeat' split
  · exact k.onMoveHatch _ _ _ hp
  · exact k.onMoveHatch _ _ _ hp
  · exact k.onPush _ hp

theorem onHaltMotion (k : CommandsKeep P) (h : Hatch) (hp : P S s) : P S (haltMotion s h) := by
  simp only [haltMotion]
  split
  case h_1 | h_2 => exact k.onStopStep _ _ hp
  case h_3 =>
    split
    · exact k.onReclampAbandoned h (k.onWithdraw h hp)
    · exact hp
  case h_4 => exact k.onCtx rfl hp
  all_goals exact hp

theorem onHaltHatch (k : CommandsKeep P) (h : Hatch) (hp : P S s) : P S (haltHatch h s) :=
  k.onHaltMotion h (k.onJogEndOn h (k.onClearMark h hp))

theorem onHaltRequest (k : CommandsKeep P) (f : RxFrame) (hp : P S s) : P S (haltRequest f s) := by
  simp only [haltRequest]
  repeat' split
  · exact k.onPush _ hp
  · exact k.onPush _ hp
  · exact k.onPush _ hp
  · exact k.onHaltHatch _ (k.onPush _ hp)
  · exact k.onHaltHatch _ (k.onPush _ hp)
  · exact onFoldr (fun h _ hu => k.onHaltHatch h hu) (k.onPush _ hp)

theorem onAckFault (k : CommandsKeep P) (f : RxFrame) (hp : P S s) : P S (ackFaultRequest f s) := by
  simp only [ackFaultRequest]
  repeat' split
  · exact k.onPush _ hp
  · exact k.onPush _ hp
  · exact k.onPush _ hp
  · exact k.onPush _ hp
  · exact k.onPush _ hp
  · exact k.onTakeUp _ (k.onDerive _ _ (k.onAckValves _ (k.onPush _ hp)))

theorem onReclampTimeout (k : CommandsKeep P) (h : Hatch) (hp : P S s) : P S (reclampTimeout s h) :=
  k.onRemoveEntry h (k.onPush _ (k.onReclampTimedOut h (k.onDropStep h hp)))

/-! ### PLACE_HOLD and LIFT_HOLD -/

theorem onHoldMeets (k : CommandsKeep P) (e : HoldEntry) (h : Hatch) (hp : P S s) : P S (holdMeets e h s) := by
  simp only [holdMeets]
  split
  · exact hp
  · split
    · split
      case h_3 => exact k.onReclampKept h (k.onWithdraw h hp)
      case h_1 | h_2 => exact k.onStopStep _ _ hp
      all_goals exact hp
    · exact hp

theorem onHoldMeetsJog (k : CommandsKeep P) (e : HoldEntry) (hp : P S s) : P S (holdMeetsJog e s) := by
  simp only [holdMeetsJog]
  repeat' split
  · exact k.onJogEnd hp
  · exact hp
  · exact hp

theorem onPlaceEntry (k : CommandsKeep P) {f : RxFrame} {kind : HoldKind} {panel : Option Panel}
    (hm : matching s f.station kind f.scope panel = none) (hl : s.holds.entries.length < 48) (hp : P S s) :
    P S (placeEntry s f kind panel) :=
  onFoldr (fun h _ hu => k.onHoldMeets _ h hu)
    (k.onHoldMeetsJog _ (k.onReply _ _ _ (k.onRetain _ (k.onPlaced _ _ hm hl hp))))

theorem onPlaceChecked (k : CommandsKeep P) (f : RxFrame) (kind : HoldKind) (panel : Option Panel) (hp : P S s) :
    P S (placeChecked s f kind panel) := by
  simp only [placeChecked]
  split
  · exact k.onReply _ _ _ hp
  · split
    · exact k.onReply _ _ _ hp
    · split
      · rename_i e he
        split
        · exact k.onReply _ _ _ hp
        · rename_i hc
          exact k.onReply _ _ _ (k.onRetain _ (k.onRecounted (List.mem_of_find?_eq_some he) (.inl ⟨hc, rfl⟩) hp))
      · rename_i hm
        split
        · exact k.onReply _ _ _ hp
        · rename_i hl
          exact k.onPlaceEntry hm (Nat.lt_of_not_le hl) hp

theorem onPlaceRequest (k : CommandsKeep P) (f : RxFrame) (hp : P S s) : P S (placeRequest f s) := by
  simp only [placeRequest]
  repeat' split
  all_goals first | exact k.onReply _ _ _ hp | exact k.onPlaceChecked _ _ _ hp

theorem onRemoveHold (k : CommandsKeep P) (e : HoldEntry) (hp : P S s) : P S (removeHold s e) :=
  onFoldr (fun h _ hu => k.onTakeUp h hu) (k.onRetain _ (k.onLifted e hp))

theorem onOwnerLift (k : CommandsKeep P) {f : RxFrame} {e : HoldEntry} (he : e ∈ s.holds.entries) (hp : P S s) :
    P S (ownerLift s f e) := by
  simp only [ownerLift]
  split
  · rename_i hc
    exact k.onReply _ _ _ (k.onRetain _ (k.onRecounted he (.inr ⟨hc, rfl⟩) hp))
  · exact k.onRemoveHold e (k.onReply _ _ _ hp)

theorem onLiftRequest (k : CommandsKeep P) (key : Bool) (f : RxFrame) (hp : P S s) : P S (liftRequest key f s) := by
  have hk : P S { s with keyOverride := key } := k.onKeys key s.keyService hp
  have whole : ∀ e, P S (wholeLift { s with keyOverride := key } f e) := fun e => k.onRemoveHold e (k.onReply _ _ _ hk)
  simp only [liftRequest]
  repeat' split
  all_goals first
    | exact k.onReply _ _ _ hk
    | exact whole _
    | skip
  rename_i he _ _
  exact k.onOwnerLift (List.mem_of_find?_eq_some he) hk

/-! ### CONFIRM_CLEAT and SET_SERVICE -/

theorem onConfirmCleat (k : CommandsKeep P) (f : RxFrame) (hp : P S s) : P S (confirmRequest f s) := by
  simp only [confirmRequest, confirmCleatAt]
  repeat' split
  all_goals first | exact k.onReply _ _ _ hp | skip
  rename_i r hr _ _ _ _
  exact k.onRejudged (k.onReply _ _ _ (k.onRetain _ (k.onRecord (fun r' hr' hold => by cases hr'; exact hold r hr) hp)))

theorem onTakeService (k : CommandsKeep P) {f : RxFrame} {id : CleatId} {r : CleatRec} {sv : Service}
    (hr : s.slot id = some r) (hp : P S s) : P S (takeService s f id r sv) := by
  have hrec : P (insert (cleatHatch id) S) (s.setSlot id (some (r.withService sv f.station s.uptime))) :=
    k.onRecord (fun r' hr' hold => by
      cases hr'
      obtain ⟨-, hcount, hhistory⟩ := hold r hr
      exact ⟨Nat.zero_le 3, hcount, hhistory⟩) hp
  refine k.onRejudged ?_
  split
  · exact k.onPush _ (k.onReply _ _ _ (k.onRetain _ hrec))
  · exact k.onReply _ _ _ (k.onRetain _ hrec)

theorem onSetService (k : CommandsKeep P) (f : RxFrame) (hp : P S s) : P S (serviceRequest f s) := by
  simp only [serviceRequest, setServiceAt]
  repeat' split
  all_goals first | exact k.onReply _ _ _ hp | skip
  rename_i r hr _ _ _ _ _
  exact k.onTakeService hr hp

/-! ### SQUALL and CANCEL_SQUALL -/

theorem onMarkHatch (k : CommandsKeep P) (h : Hatch) (hp : P S s) : P S (markHatch h s) := by
  have hm : P S (s.updCtx h fun c => { c with mark := true }) := k.onCtx rfl hp
  simp only [markHatch]
  split
  case h_1 => exact k.onReclass _ hm
  case h_2 => exact k.onStopStep _ _ hm
  case h_3 => exact k.onCtx rfl hm
  case h_4 | h_5 => exact k.onPush _ hm
  case h_6 =>
    split
    · exact k.onPush _ hm
    · exact k.onReclass _ hm
  all_goals exact hm

theorem onSquallRequest (k : CommandsKeep P) (f : RxFrame) (hp : P S s) : P S (squallRequest f s) := by
  simp only [squallRequest]
  repeat' split
  · exact k.onReply _ _ _ hp
  · exact k.onReply _ _ _ hp
  · exact onFoldr (fun h _ hu => k.onMarkHatch h hu) (k.onReply _ _ _ hp)

theorem onCancelRequest (k : CommandsKeep P) (f : RxFrame) (hp : P S s) : P S (cancelRequest f s) := by
  simp only [cancelRequest]
  repeat' split
  · exact k.onReply _ _ _ hp
  · exact k.onReply _ _ _ hp
  · exact k.onReply _ _ _ hp
  · exact onFoldr (fun h _ hu => k.onClearMark h hu) (k.onReply _ _ _ hp)

/-! ### The supply -/

theorem onSyncPressure (k : CommandsKeep P) (hp : P S s) : P S (syncPressure s) := k.onSupply rfl rfl hp

theorem onDropLowPressure (k : CommandsKeep P) (hp : P S s) : P S (dropLowPressure s) := by
  simp only [dropLowPressure]
  split
  · exact hp
  · exact k.onSupply rfl rfl hp

theorem onPumpsChanged (k : CommandsKeep P) (hp : P S s) : P S (pumpsChanged s) :=
  k.onAvailable _ (k.onSyncPressure (k.onDropLowPressure hp))

theorem onSyncAvailable (k : CommandsKeep P) (hp : P S s) : P S (syncAvailable s) := by
  simp only [syncAvailable]
  split
  · exact hp
  · exact k.onAvailable _ hp

theorem onSyncReduction (k : CommandsKeep P) (hp : P S s) : P S (syncReduction s) := k.onTimers rfl rfl hp

theorem onStopPump (k : CommandsKeep P) (i : PumpId) (hp : P S s) : P S (stopPump s i) := by
  simp only [stopPump]
  split
  · refine k.onPump ?_ hp
    intro h
    simp only at h
    split at h
    · cases h
    · split at h <;> cases h
  · exact hp

theorem onTripPump (k : CommandsKeep P) (i : PumpId) (c : TripCause) (hp : P S s) : P S (tripPump s i c) :=
  k.onPump (fun h => by cases h) hp

theorem onSetRating (k : CommandsKeep P) (i : PumpId) (v : Nat) (hp : P S s) : P S (setRating s i v) := by
  have hr : P S (s.setPump i { s.pump i with rated := v }) := k.onPump id hp
  simp only [setRating]
  split
  case h_1 =>
    repeat' split
    · exact hr
    · exact k.onTripPump _ _ hr
    · exact k.onPump (fun h => by cases h) hr
  case h_2 =>
    split
    · exact k.onPump (fun h => by cases h) hr
    · exact hr
  case h_3 | h_4 =>
    split
    · exact k.onStopPump _ hr
    · exact hr
  all_goals exact hr

theorem onRatingsTaken (k : CommandsKeep P) (before : State) (hp : P S s) : P S (ratingsTaken before s) := by
  simp only [ratingsTaken]
  split
  · exact k.onSyncAvailable hp
  · exact k.onPumpsChanged hp

theorem onTakeRatings (k : CommandsKeep P) (hp : P S s) : P S (takeRatings s) :=
  k.onRatingsTaken _ (k.onSetRating _ _ (k.onSetRating _ _ (k.onSetRating _ _ hp)))

theorem onIdleExpires (k : CommandsKeep P) (hp : P S s) : P S (idleExpires s) := by
  have stop : ∀ {u : State} (i : PumpId), P S u → P S (if (u.pump i).state = .running then stopPump u i else u) := by
    intro u i hu
    split
    · exact k.onStopPump i hu
    · exact hu
  have hs : P S (stopRunning { s with arbiter := { s.arbiter with idleTimer := s.params.idleTime } }) :=
    stop 2 (stop 1 (stop 0 (k.onTimers rfl rfl hp)))
  simp only [idleExpires]
  split
  · exact hs
  · exact k.onPumpsChanged hs

theorem onIdleChanged (k : CommandsKeep P) (old : Nat) (hp : P S s) : P S (idleChanged old s) := by
  simp only [idleChanged]
  repeat' split
  · exact hp
  · exact k.onIdleExpires hp
  · exact k.onTimers rfl rfl hp

theorem onPumpRuns (k : CommandsKeep P) (i : PumpId) (hp : P S s) : P S (pumpRuns s i) := by
  have hr : P S (s.setPump i { s.pump i with state := .running, age := 0 }) := k.onPump (fun h => by cases h) hp
  refine k.onPumpsChanged ?_
  split
  · exact k.onStopPump _ hr
  · exact hr

theorem not_starting_restState (p : Pump) : restState p ≠ .starting := by
  simp only [restState]
  split <;> simp

theorem onFeedbackChanged (k : CommandsKeep P) (i : PumpId) (hp : P S s) : P S (feedbackChanged s i) := by
  simp only [feedbackChanged]
  split
  · exact k.onPumpRuns i hp
  · exact k.onPumpsChanged (k.onTripPump _ _ hp)
  · exact k.onPumpsChanged (k.onTripPump _ _ hp)
  · exact k.onPumpsChanged (k.onPump (fun h => absurd h (not_starting_restState _)) hp)
  · exact hp

theorem onAckPump (k : CommandsKeep P) (f : RxFrame) (hp : P S s) : P S (ackPumpRequest f s) := by
  simp only [ackPumpRequest]
  repeat' split
  all_goals first
    | exact k.onPush _ hp
    | exact k.onPumpsChanged (k.onPump (fun h => absurd h (not_starting_restState _)) (k.onPush _ hp))

theorem onAckFlags (k : CommandsKeep P) (f : RxFrame) (hp : P S s) : P S (ackFlagsRequest f s) := by
  simp only [ackFlagsRequest]
  repeat' split
  all_goals first
    | exact k.onReplyStanding _ _ _ hp
    | exact k.onReplyStanding _ _ _ (k.onSupply rfl rfl hp)

theorem onTestTemperature (k : CommandsKeep P) (hp : P S s) : P S (testTemperature s) := by
  simp only [testTemperature]
  repeat' split
  all_goals first | exact hp | exact k.onSupply rfl rfl hp

theorem onTakeSample (k : CommandsKeep P) (codes : Option AnalogCodes) (hp : P S s) : P S (takeSample codes s) :=
  k.onSyncReduction (k.onSyncAvailable (k.onSyncPressure (k.onPush _ (k.onTestTemperature (k.onAnalog _ hp)))))

/-! ### The junction lines -/

theorem onMissedScan (k : CommandsKeep P) {h : Hatch} {j : Junction} (hj : j.state = (s.junctions.get h).state)
    (hpanels : j.panels = (s.junctions.get h).panels) (hp : P S s) : P S (missedScan s h j) := by
  have cut : ∀ p, ((j.panels.map PanelSense.missed).get p).position = (s.panel h p).position ∧
      ((j.panels.map PanelSense.missed).get p).jack = (s.panel h p).jack := by
    intro p
    rw [hpanels]
    cases p <;> exact ⟨rfl, rfl⟩
  have lost : ∀ j' : Junction, P S (lineLost s h j') := by
    intro j'
    refine k.onJogEndInvalid _ _ (k.onJogEndInvalid _ _ ?_)
    have hl : P S (rejudge (tableLost (s.setJunction h { j' with
        state := .lost, misses := 3, panels := j'.panels.map PanelSense.lost }) h) h) :=
      k.onRejudged (k.mono (by simp) (k.onRecords (fun id r hr => by split <;> exact hr) (k.onJunction h _ hp)))
    split
    · exact k.onFaultHatch _ _ hl
    · exact hl
  simp only [missedScan]
  split
  · rename_i ho
    exact k.onJunctionKept (by simp [← hj, ho]) cut hp
  · rename_i ho
    split
    · exact lost _
    · exact k.onJunctionKept (by simp [← hj, ho]) cut hp
  · rename_i ho
    exact k.onJunctionKept (by simp [← hj]) (fun p => by rw [hpanels]; exact ⟨rfl, rfl⟩) hp

theorem onRetainCounts (k : CommandsKeep P) (before : State) (h : Hatch) (hp : P S s) : P S (retainCounts before s h) := by
  have step : ∀ (ids : List CleatId) (g : CleatId → Bool) (u : State), P S u →
      P S (ids.foldl (fun s id => if g id then s else retain s (.cleat id)) u) := by
    intro ids g
    induction ids with
    | nil => exact fun u hu => hu
    | cons id ids ih =>
      intro u hu
      refine ih _ ?_
      cases hg : g id with
      | true => simpa only [hg, if_true] using hu
      | false => simpa only [hg, Bool.false_eq_true, if_false] using k.onRetain _ hu
  have := step (hatchCleats h) (fun id => decide ((before.slot id).map (·.faultCount) = (s.slot id).map (·.faultCount))) s hp
  simpa [retainCounts] using this

theorem withSample_ranged {r : CleatRec} (hr : r.Ranged) (b : Bool) (x : Sample) : (r.withSample b x).Ranged := by
  obtain ⟨htries, hcount, hhistory⟩ := hr
  have bound : ∀ (q : Prop) [Decidable q], (if q then min 255 (r.faultCount + 1) else r.faultCount) ≤ 255 := by
    intro q _
    split <;> omega
  unfold CleatRec.withSample
  split
  · exact ⟨htries, bound _, List.length_take_le _ _⟩
  · exact ⟨htries, hcount, hhistory⟩

theorem onGoodFrame (k : CommandsKeep P) (h : Hatch) (bs : List Byte) (hp : P S s) : P S (goodFrame s h bs) := by
  refine k.onDeriveIfReady h (k.onRejudged (k.onPush _ (k.onRetainCounts _ _ ?_)))
  refine k.mono (S := insert h (insert h S)) (by simp) ?_
  exact k.onRecords (fun id r hr => withSample_ranged hr _ _) (k.onJunction h _ hp)

/-! ### Stop lines -/

theorem onTakeUpUntripped (k : CommandsKeep P) (hs : List Hatch) (hp : P S s) : P S (takeUpUntripped hs s) :=
  onFoldr (fun h _ hu => k.onTakeUp h hu) hp

theorem tripped_of_clear {s : State} {h g : Hatch} {x : StopLines} (hx : x.latch = s.stops.latch.set h false)
    (he : x.estopLatch = s.stops.estopLatch) (ht : ({ s with stops := x } : State).tripped g = true) :
    s.tripped g = true := by
  simp only [State.tripped, hx, he, Tbl.get_set] at ht ⊢
  split at ht
  · simp_all
  · exact ht

theorem onClearLatch (k : CommandsKeep P) (h : Hatch) (hp : P S s) : P S (clearLatch s h) :=
  k.onTakeUpUntripped _ (k.onStops (fun _ => tripped_of_clear rfl rfl) hp)

theorem onClearEstop (k : CommandsKeep P) (hp : P S s) : P S (clearEstop s) :=
  k.onTakeUpUntripped _ (k.onStops (fun g hg => by simp [State.tripped] at hg ⊢; exact .inl hg) hp)

theorem onAckTrip (k : CommandsKeep P) (f : RxFrame) (hp : P S s) : P S (ackTripRequest f s) := by
  simp only [ackTripRequest]
  repeat' split
  all_goals first
    | exact k.onPush _ hp
    | exact k.onClearEstop (k.onPush _ hp)
    | exact k.onClearLatch _ (k.onPush _ hp)

theorem onSetLoop (k : CommandsKeep P) (n : Fin 10) (b : Bool) (hp : P S s) : P S (setLoop s n b) := by
  simp only [setLoop]
  split <;> exact k.onStops (fun _ h => h) hp

/-! ### The image -/

theorem onBuildTable (k : CommandsKeep P) (hp : P S s) : P Set.univ (buildTable s) := by
  have step : ∀ (ids : List CleatId) (u : State), P Set.univ u →
      P Set.univ (ids.foldl (fun s id => retain s (.cleat id)) u) := by
    intro ids
    induction ids with
    | nil => exact fun u hu => hu
    | cons id ids ih => exact fun u hu => ih _ (k.onRetain _ hu)
  exact step _ _ (k.onTableBuilt s.store.copy hp)

theorem onImageBecomesValid (k : CommandsKeep P) (hp : P S s) : P ∅ (imageBecomesValid s) := by
  refine k.onRejudgeAll (S := Set.univ) (onFoldr (fun h _ hu => k.onDeriveIfReady h hu) ?_)
  refine k.onIdleChanged _ (k.onTakeRatings (k.onBuildTable (S := S ∪ Set.univ) (k.onStore (.inl rfl) ?_ hp)))
  exact fun h hh => absurd (Set.mem_univ h) hh

/-- A change of the store that no block reads leaves no verdict behind. -/
theorem onStoreKept (k : CommandsKeep P) {st : Store} (hc : st.copy = s.store.copy ∨ st.copy.sound = true)
    (hq : ({ s with store := st } : State).params = s.params) (hp : P S s) : P S { s with store := st } := by
  have := k.onStore (T := ∅) hc (fun h _ => by rw [hq]; exact ⟨rfl, rfl⟩) hp
  simpa using this

theorem default_sound : Image.default.sound = true := by decide +kernel

theorem onImageFails (k : CommandsKeep P) (hr : s.store.image = .reading) (hp : P S s) : P S (imageFails s) := by
  refine k.onStoreKept (.inr default_sound) ?_ hp
  simp [State.params, State.imageValid, hr]

theorem onImageReadEnd (k : CommandsKeep P) (image : Image) (agrees : Bool) (hp : P ∅ s) :
    P ∅ (if s.store.image = .reading then
      if agrees && !s.store.memoryFailing && image.inRange && image.sound then
        imageBecomesValid { s with store := { s.store with copy := image } }
      else imageFails s
    else s) := by
  split
  · rename_i hr
    split
    · rename_i hs
      simp only [Bool.and_eq_true] at hs
      exact k.onImageBecomesValid (S := ∅ ∪ Set.univ) (k.onStore (.inr hs.2) (fun h hh => absurd (Set.mem_univ h) hh) hp)
    · exact k.onImageFails hr hp
  · exact hp

end CommandsKeep
end Sys2Proof.Machine
end

section
/-!
What every command keeps, continued: SET_PARAM and its write, the channel lines and the jog, and the theorem over all commands.
-/

namespace Sys2Proof

/-! ### One item of the image replaced -/

/-- The stop band is item 22 alone. -/
theorem Image.withItem_band (p : Image) {item : Nat} (idx : Nat) (v : Int) (hi : item ≠ 22) :
    (p.withItem item idx v).band = p.band := by
  unfold Image.withItem
  split_ifs
  all_goals first | rfl | skip
  rename_i hlow _ hrange
  have : (⟨item - 12, hrange⟩ : Fin 19) ≠ 10 := by
    intro h
    have : item - 12 = 10 := congrArg Fin.val h
    omega
  simp [Image.band, this]

/-- The retired allowance of a hatch is item 3 at its index alone. -/
theorem Image.withItem_allowance (p : Image) {item idx : Nat} (v : Int) {h : Hatch} (hi : item = 3 → idx - 1 ≠ h.val) :
    (p.withItem item idx v).allowance h = p.allowance h := by
  unfold Image.withItem
  split_ifs
  case pos h1 h2 =>
    by_cases hh : idx - 1 = h.val
    · have hne : item ≠ 3 := fun he => hi he hh
      have : (⟨idx - 1, h2⟩ : Hatch) = h := Fin.ext hh
      simp only [Image.allowance, this, Tbl.get_upd_self]
      split <;> first | rfl | exact absurd rfl hne
    · have : (⟨idx - 1, h2⟩ : Hatch) ≠ h := fun he => hh (congrArg Fin.val he)
      simp [Image.allowance, this]
  all_goals rfl

theorem Tbl.upd_eq_self {n : Nat} {α : Type} {t : Tbl n α} {i : Fin n} {f : α → α} (h : f (t.get i) = t.get i) :
    t.upd i f = t := by
  rw [Tbl.upd, h, Tbl.set_get_self]

/-- Writing the value that an item has changes nothing. -/
theorem Image.withItem_self (p : Image) (item idx : Nat) : p.withItem item idx (p.item item idx) = p := by
  unfold Image.withItem Image.item
  split_ifs
  · have : ∀ t, p.hatch = t → ({ p with hatch := t } : Image) = p := fun t ht => by rw [← ht]
    refine this _ (Tbl.upd_eq_self ?_).symm
    split <;> rfl
  · rfl
  · have : ∀ t, p.cleat = t → ({ p with cleat := t } : Image) = p := fun t ht => by rw [← ht]
    refine this _ (Tbl.upd_eq_self ?_).symm
    obtain rfl | rfl | rfl : item = 5 ∨ item = 6 ∨ item = 7 := by omega
    all_goals rfl
  · rfl
  · have : ∀ t, p.step = t → ({ p with step := t } : Image) = p := fun t ht => by rw [← ht]
    refine this _ (Tbl.upd_eq_self ?_).symm
    obtain rfl | rfl | rfl : item = 8 ∨ item = 9 ∨ item = 10 := by omega
    all_goals rfl
  · rfl
  · rw [Tbl.set_get_self]
  · rfl
  · rw [Tbl.set_get_self]
  · rfl

/-! ### The commands of a general form -/

/-- The commands but RESET, START_UP, DRIVE_UPDATE and LOOP_OPENS. -/
def Instr.plain : Instr → Bool
  | .reset _ | .startUp | .driveUpdate _ _ | .loopOpens _ => false
  | _ => true

end Sys2Proof

namespace Sys2Proof.Machine
open Sys2Proof Sys2Proof.Safety

/-- The item of a hatch has an index 1 to 9 (R177). -/
theorem hatchOf_of_itemExists {item idx : Nat} (he : itemExists item idx = true) (hi : item ≤ 4) :
    ∃ h : Hatch, hatchOf idx = some h ∧ idx - 1 = h.val := by
  unfold itemExists itemIndices at he
  have : item ≠ 0 := by rintro rfl; simp at he
  simp only [this, if_false, hi, if_true, Bool.and_eq_true, decide_eq_true_eq] at he
  exact ⟨⟨idx - 1, by omega⟩, by simp [hatchOf, he], rfl⟩

/-- SERVICE is station 13 (R160). -/
theorem station_of_service {n : StationId} (h : roleOf n = .service) : n = 13 := by
  revert n
  decide

/-- The part after a stored write and its answer, before the image may become VALID (R182). -/
def writeEnded (s : State) (w : ParamWrite) : State :=
  let t := markWritten s w
  answerWrite { t with store := { t.store with
    write := none
    unsaved := if t.store.unsaved = some (w.item, w.index) then none else t.store.unsaved } } w true

/-- The image becomes VALID where it was INVALID and the last written mark is set (R182). -/
def imageCompleted (s : State) : State :=
  if s.store.image = .invalid && s.store.written.items.all id then imageBecomesValid s else s

theorem writeStored_eq (s : State) (w : ParamWrite) : writeStored s w =
    { imageCompleted (writeEnded s w) with store := { (imageCompleted (writeEnded s w)).store with
      memoryFailing := (imageCompleted (writeEnded s w)).store.memoryFailing &&
        !(imageCompleted (writeEnded s w)).imageValid } } := rfl

namespace CommandsKeep
variable {P : Set Hatch → State → Prop} {S : Set Hatch} {s : State}

/-! ### SET_PARAM -/

theorem onBandChanged (k : CommandsKeep P) (before : State) (hp : P S s) : P ∅ (bandChanged before s) := by
  refine onFoldr (fun h u hu => ?_) (k.onRejudgeAll hp)
  split
  · exact k.onPush _ hu
  · exact hu

theorem onRebuildSlot (k : CommandsKeep P) (id : CleatId) (hp : P S s) : P S (rebuildSlot s id) := by
  refine k.onTakeUp _ (k.onRejudged (k.onRetain _ (k.onRecord ?_ hp)))
  intro r hr _
  simp only [builtSlot] at hr
  split at hr
  · obtain rfl := Option.some.inj hr
    exact ⟨Nat.zero_le _, Nat.zero_le _, Nat.zero_le _⟩
  · cases hr

theorem onHatchIndex (k : CommandsKeep P) {idx : Nat} {f : Hatch → State → State}
    (hf : ∀ h, P S s → P S (f h s)) (hp : P S s) : P S (onHatch idx f s) := by
  have := k.mono (S := S) (s := s) subset_rfl
  simp only [onHatch]
  split
  · exact hf _ hp
  · exact hp

theorem onModeChanged (k : CommandsKeep P) (h : Hatch) (hp : P S s) : P S (modeChanged s h) :=
  k.onStops (fun _ h => h) hp

/-- What an owner does keeps the predicate, whatever the item. -/
theorem onOwnerTakes (k : CommandsKeep P) (before : State) (item idx : Nat) (hp : P S s) :
    P S (ownerTakes before item idx s) := by
  unfold ownerTakes
  split
  case h_1 | h_2 => exact k.onHatchIndex (fun h hs => k.onRejudge' h hs) hp
  case h_3 => exact k.onHatchIndex (fun h hs => k.onModeChanged h hs) hp
  case h_4 | h_5 | h_6 =>
    split
    · exact k.onRebuildSlot _ hp
    · exact hp
  case h_7 =>
    split
    · exact k.onRatingsTaken _ (k.onSetRating _ _ hp)
    · exact hp
  case h_8 | h_9 | h_10 => exact k.onSyncAvailable hp
  case h_11 => exact k.mono (Set.empty_subset _) (k.onBandChanged _ hp)
  case h_12 => exact k.onIdleChanged _ hp
  case h_13 => exact k.onSyncPressure hp
  case h_14 => exact hp

/-- The part as SET_PARAM leaves it for the owner of the item: the new value in the copy, the write and the outstanding request
(R165, R182). -/
def paramTaken (s : State) (f : RxFrame) : State :=
  let w : ParamWrite := ⟨paramItem f, paramIndex f, paramValue f⟩
  ({ s with store := { s.store with copy := s.store.copy.withItem w.item w.index w.value, write := some w } } : State).setStation
    f.station { s.station f.station with outstanding := some ⟨f.data.get 0, f.data.get 1⟩ }

theorem beginWrite_eq (s : State) (f : RxFrame) : beginWrite s f =
    if s.imageValid && s.store.copy.item (paramItem f) (paramIndex f) != paramValue f then
      ownerTakes s (paramItem f) (paramIndex f) (paramTaken s f)
    else paramTaken s f := rfl

theorem onParamTaken (k : CommandsKeep P) {f : RxFrame} {T : Set Hatch} (hr : roleOf f.station = .service)
    (hs : (s.store.copy.withItem (paramItem f) (paramIndex f) (paramValue f)).sound = true)
    (hT : ∀ h ∉ T, (paramTaken s f).params.band = s.params.band ∧ (paramTaken s f).params.allowance h = s.params.allowance h)
    (hp : P S s) : P (S ∪ T) (paramTaken s f) := by
  refine k.onStation _ (fun h => ?_) (k.onStore (.inr hs) hT hp)
  rw [station_of_service hr] at h
  exact absurd h (by decide)

theorem onBeginWrite (k : CommandsKeep P) {f : RxFrame} (he : itemExists (paramItem f) (paramIndex f) = true)
    (hr : roleOf f.station = .service)
    (hs : (s.store.copy.withItem (paramItem f) (paramIndex f) (paramValue f)).sound = true) (hp : P S s) :
    P S (beginWrite s f) := by
  have hparams : (paramTaken s f).params =
      if s.imageValid then s.store.copy.withItem (paramItem f) (paramIndex f) (paramValue f) else Image.default := rfl
  have kept (hq : (paramTaken s f).params = s.params) : P S (paramTaken s f) := by
    simpa using k.onParamTaken (T := ∅) hr hs (fun h _ => by rw [hq]; exact ⟨rfl, rfl⟩) hp
  rw [beginWrite_eq]
  by_cases hv : s.imageValid = true
  · simp only [hv, if_true] at hparams
    by_cases hc : s.store.copy.item (paramItem f) (paramIndex f) = paramValue f
    · rw [if_neg (by simp [hc])]
      refine kept ?_
      rw [hparams, ← hc, Image.withItem_self]
      simp [State.params, hv]
    · rw [if_pos (by simp [hv, hc])]
      have hp0 : s.params = s.store.copy := by simp [State.params, hv]
      by_cases hband : paramItem f = 22
      · have := k.onParamTaken (T := Set.univ) hr hs (fun h hh => absurd (Set.mem_univ h) hh) hp
        rw [hband]
        exact k.mono (Set.empty_subset _) (k.onBandChanged _ this)
      · by_cases hall : paramItem f = 3
        · obtain ⟨h, hh, hidx⟩ := hatchOf_of_itemExists he (by omega)
          have htaken : P (S ∪ {h}) (paramTaken s f) := by
            refine k.onParamTaken hr hs (fun g hg => ?_) hp
            rw [hparams, hp0]
            refine ⟨Image.withItem_band _ _ _ hband, Image.withItem_allowance _ _ fun _ hgh => hg ?_⟩
            exact Fin.ext (hgh.symm.trans hidx)
          rw [hall]
          simp only [ownerTakes, onHatch, hh]
          exact k.onRejudged (by rwa [Set.union_singleton] at htaken)
        · refine k.onOwnerTakes _ _ _ ?_
          simpa using k.onParamTaken (T := ∅) hr hs (fun h _ => by
            rw [hparams, hp0]
            exact ⟨Image.withItem_band _ _ _ hband, Image.withItem_allowance _ _ fun h => absurd h hall⟩) hp
  · rw [if_neg (by simp [hv])]
    refine kept ?_
    rw [hparams]
    simp [State.params, hv]

theorem onParamRequest (k : CommandsKeep P) (key : Bool) (f : RxFrame) (hp : P S s) : P S (paramRequest key f s) := by
  have hk : P S { s with keyService := key } := k.onKeys s.keyOverride key hp
  simp only [paramRequest]
  split
  · exact k.onReply _ _ _ hk
  · rename_i hitem
    split
    · exact k.onReply _ _ _ hk
    · rename_i hrole
      split
      · exact k.onReply _ _ _ hk
      · split
        · exact k.onReply _ _ _ hk
        · split
          · exact k.onReply _ _ _ hk
          · rename_i hs
            simp only [Bool.not_eq_true', Bool.not_eq_false, Bool.and_eq_true, decide_eq_true_eq] at hitem hrole hs
            exact k.onBeginWrite hitem hrole.1 hs hk

/-! ### The end of a write -/

theorem onMarkWritten (k : CommandsKeep P) (w : ParamWrite) (hp : P S s) : P S (markWritten s w) := by
  simp only [markWritten]
  split
  · exact k.onStoreKept (.inl rfl) rfl hp
  · exact hp

theorem onAnswerWrite (k : CommandsKeep P) (w : ParamWrite) (b : Bool) (hp : P S s) : P S (answerWrite s w b) := by
  simp only [answerWrite]
  split
  · exact hp
  · exact k.onSend _ (k.onStation _ (fun h => absurd h (by decide)) hp)

theorem onWriteEnded (k : CommandsKeep P) (w : ParamWrite) (hp : P S s) : P S (writeEnded s w) :=
  k.onAnswerWrite _ _ (k.onStoreKept (.inl rfl) rfl (k.onMarkWritten w hp))

theorem onWriteStored (k : CommandsKeep P) (w : ParamWrite) (hp : P ∅ s) : P ∅ (writeStored s w) := by
  rw [writeStored_eq]
  refine k.onStoreKept (.inl rfl) rfl ?_
  unfold imageCompleted
  split
  · exact k.onImageBecomesValid (k.onWriteEnded w hp)
  · exact k.onWriteEnded w hp

theorem onWriteLost (k : CommandsKeep P) (w : ParamWrite) (hp : P S s) : P S (writeLost s w) :=
  k.onAnswerWrite _ _ (k.onStoreKept (.inl rfl) rfl hp)

/-! ### JOG -/

theorem onStartJog (k : CommandsKeep P) (f : RxFrame) (h : Hatch) (c : Channel) (d : Dir) (command : Nat)
    (hp : P S s) : P S (startJog s f h c d command) := by
  simp only [startJog]
  repeat' split
  all_goals first
    | exact k.onReply _ _ _ hp
    | exact k.onQueueJog _ _ (k.onJog _ (k.onReply _ _ _ hp))

theorem onRenewJog (k : CommandsKeep P) (f : RxFrame) (d : Dir) (command : Nat) (hp : P S s) :
    P S (renewJog s f d command) := by
  simp only [renewJog]
  repeat' split
  · exact hp
  · exact k.onJogEnd (k.onJog _ (k.onReply _ _ _ hp))
  · exact k.onRefreshJog (k.onJog _ (k.onReply _ _ _ hp))

theorem onJogChecked (k : CommandsKeep P) {take : State → RxFrame → Hatch → Channel → Dir → Nat → State} {key : Bool}
    {f : RxFrame} (ht : ∀ h c d n, P S { s with keyService := key } → P S (take { s with keyService := key } f h c d n))
    (hp : P S s) : P S (jogChecked key take f s) := by
  have hk : P S { s with keyService := key } := k.onKeys s.keyOverride key hp
  simp only [jogChecked]
  repeat' split
  all_goals first
    | exact k.onReply _ _ _ hk
    | exact ht _ _ _ _ hk

end CommandsKeep

/-! ### Every command -/

/-- What a transformation keeps, the event that it begins keeps. -/
theorem event_keeps {P : Set Hatch → State → Prop} (k : CommandsKeep P) {s t : State} {f : State → State}
    (hf : P ∅ s → P ∅ (f s)) (hp : P ∅ s) (he : event f s = .next t) : P ∅ t := by
  simp only [event, Host.Outcome.next.injEq] at he
  subst he
  split
  · exact hp
  · exact k.onSettle (hf hp)

theorem quiet_keeps {P : Set Hatch → State → Prop} {s t : State} {f : State → State}
    (hf : P ∅ s → P ∅ (f s)) (hp : P ∅ s) (he : quiet f s = .next t) : P ∅ t := by
  simp only [quiet, Host.Outcome.next.injEq] at he
  subst he
  split
  · exact hp
  · exact hf hp

namespace CommandsKeep
variable {P : Set Hatch → State → Prop} {s t : State}

theorem onFrameArrival (k : CommandsKeep P) {frame : CanFrame} (hp : P ∅ s)
    (he : execDeckFrameArrival frame s = .next t) : P ∅ t := by
  refine quiet_keeps (fun hp => ?_) hp he
  split
  · rename_i f hf
    have hn : f.station.val ≤ 13 := by
      simp only [acceptedRequest] at hf
      split at hf
      · cases hf
      · obtain ⟨n, hn, rfl⟩ := Option.map_eq_some_iff.mp hf
        simp only [requestStation] at hn
        split at hn
        · obtain rfl := Option.some.inj hn
          simp only
          omega
        · cases hn
    have hr : P ∅ (renewPresence s f.station) := by
      have hs := k.onStation (s := s) (n := f.station) { s.station f.station with present := true, silence := 0 }
        (fun h => absurd h (by omega)) hp
      simp only [renewPresence]
      split
      · exact hs
      · exact k.onMarkEntries _ _ hs
    exact k.onJoinFifo f hr
  · exact hp

theorem onSilence (k : CommandsKeep P) {n : StationId} (hp : P ∅ s)
    (he : execSilenceTimerExpiry n s = .next t) : P ∅ t := by
  refine quiet_keeps (fun hp => ?_) hp he
  simp only
  split
  · rename_i h
    simp only [Bool.and_eq_true] at h
    exact k.onMarkEntries _ _ (k.onStation _ (fun _ => .inl h.1) hp)
  · exact hp

/-- Every command but RESET, START_UP, DRIVE_UPDATE and LOOP_OPENS keeps the predicate. -/
theorem onPlain (k : CommandsKeep P) {c : Instr} (hc : c.plain = true) (hp : P ∅ s) (he : exec c s = .next t) :
    P ∅ t := by
  cases c
  case reset | startUp | driveUpdate | loopOpens => cases hc
  case imageReadEnd image agrees => exact event_keeps k (k.onImageReadEnd image agrees) hp he
  case imageReadTimeout =>
    refine quiet_keeps (fun hp => ?_) hp he
    split
    · rename_i hr
      exact k.onImageFails hr hp
    · exact hp
  case deckFrameArrival f => exact k.onFrameArrival hp he
  case silenceTimerExpiry n => exact k.onSilence hp he
  case unknownRequest =>
    dsimp only [exec, execUnknownRequest] at he
    refine quiet_keeps (fun hp => ?_) hp he
    repeat' split
    · exact hp
    · exact hp
    · exact k.onReply _ _ _ (k.onPopped hp)
  case presence => exact quiet_keeps (k.onTaking fun f u _ hu => k.onReply _ _ _ hu) hp he
  case lookCleat => exact quiet_keeps (k.onTaking fun f u _ hu => k.onLookAnswer (k.onLookCleat f) hu) hp he
  case lookHold => exact quiet_keeps (k.onTaking fun f u _ hu => k.onLookAnswer (k.onLookHold f) hu) hp he
  case lookHatch => exact quiet_keeps (k.onTaking fun f u _ hu => k.onLookAnswer (k.onLookHatch f) hu) hp he
  case lookSupply => exact quiet_keeps (k.onTaking fun f u _ hu => k.onLookAnswer (k.onLookSupply f) hu) hp he
  case lookSensing => exact quiet_keeps (k.onTaking fun f u _ hu => k.onLookAnswer (k.onLookSensing f) hu) hp he
  case lookStation => exact quiet_keeps (k.onTaking fun f u _ hu => k.onLookAnswer (k.onLookStation f) hu) hp he
  case lookParam => exact quiet_keeps (k.onTaking fun f u _ hu => k.onLookAnswer (k.onLookParam f) hu) hp he
  case findCleat => exact quiet_keeps (k.onTaking fun f u _ hu => k.onFindAnswer (k.onFindCleat f) hu) hp he
  case findHold => exact quiet_keeps (k.onTaking fun f u _ hu => k.onFindAnswer (k.onFindHold f) hu) hp he
  case move => exact event_keeps k (k.onTaking fun f u _ hu => k.onMoveRequest f hu) hp he
  case halt => exact event_keeps k (k.onTaking fun f u _ hu => k.onHaltRequest f hu) hp he
  case ackFault => exact event_keeps k (k.onTaking fun f u _ hu => k.onAckFault f hu) hp he
  case placeHold => exact event_keeps k (k.onTaking fun f u _ hu => k.onPlaceRequest f hu) hp he
  case liftHold key => exact event_keeps k (k.onTaking fun f u _ hu => k.onLiftRequest key f hu) hp he
  case confirmCleat => exact event_keeps k (k.onTaking fun f u _ hu => k.onConfirmCleat f hu) hp he
  case setService => exact event_keeps k (k.onTaking fun f u _ hu => k.onSetService f hu) hp he
  case squall => exact event_keeps k (k.onTaking fun f u _ hu => k.onSquallRequest f hu) hp he
  case cancelSquall => exact event_keeps k (k.onTaking fun f u _ hu => k.onCancelRequest f hu) hp he
  case ackTrip => exact event_keeps k (k.onTaking fun f u _ hu => k.onAckTrip f hu) hp he
  case ackPump => exact event_keeps k (k.onTaking fun f u _ hu => k.onAckPump f hu) hp he
  case ackPumpFlags => exact quiet_keeps (k.onTaking fun f u _ hu => k.onAckFlags f hu) hp he
  case jog key =>
    exact event_keeps k (k.onTaking fun f u _ hu => k.onJogChecked (fun h c d n hn => k.onStartJog f h c d n hn) hu) hp he
  case jogRenewal key =>
    exact event_keeps k (k.onTaking fun f u _ hu => k.onJogChecked (fun _ _ d n hn => k.onRenewJog f d n hn) hu) hp he
  case setParam key => exact event_keeps k (k.onTaking fun f u _ hu => k.onParamRequest key f hu) hp he
  case writeStored =>
    dsimp only [exec, execWriteStored] at he
    refine event_keeps k (fun hp => ?_) hp he
    split
    · exact k.onWriteStored _ hp
    · exact hp
  case writeUnstored | writeTimeout =>
    dsimp only [exec, execWriteUnstored, execWriteTimeout] at he
    refine quiet_keeps (fun hp => ?_) hp he
    split
    · exact k.onWriteLost _ hp
    · exact hp
  case retentionWriteEnd =>
    dsimp only [exec, execRetentionWriteEnd] at he
    refine quiet_keeps (fun hp => ?_) hp he
    split
    · exact hp
    · rename_i w hw
      exact k.onRetentionWrite hw hp
  case frameSent =>
    dsimp only [exec, execFrameSent] at he
    refine quiet_keeps (fun hp => ?_) hp he
    split
    · exact hp
    · exact k.onLink rfl rfl hp
  case broadcastCycle =>
    dsimp only [exec, execBroadcastCycle] at he
    exact quiet_keeps (fun hp => by refine k.onLink ?_ ?_ hp <;> rfl) hp he
  case scan h =>
    dsimp only [exec, execScan] at he
    refine event_keeps k (fun hp => ?_) hp he
    split
    · exact k.onJunctionKept Iff.rfl (fun p => ⟨rfl, rfl⟩) hp
    · exact k.onMissedScan rfl rfl hp
  case junctionFrame h bs =>
    dsimp only [exec, execJunctionFrame] at he
    refine event_keeps k (fun hp => ?_) hp he
    repeat' split
    · exact k.onJunctionKept Iff.rfl (fun p => ⟨rfl, rfl⟩) hp
    · exact hp
    · exact k.onGoodFrame h bs hp
  case analogSample codes => exact event_keeps k (k.onTakeSample codes) hp he
  case stepTimeout h =>
    dsimp only [exec, execStepTimeout] at he
    refine event_keeps k (fun hp => ?_) hp he
    repeat' split
    · exact k.onReclampTimeout h hp
    · exact k.onFaultHatch h _ hp
    · exact hp
    · exact hp
  case stall h p =>
    refine event_keeps k (fun hp => ?_) hp he
    split
    · exact k.onFaultHatch h _ hp
    · exact hp
  case deadtimeExpiry h c =>
    dsimp only [exec, execDeadtimeExpiry] at he
    refine quiet_keeps (fun hp => ?_) hp he
    split
    · exact hp
    · exact k.onChannelLine rfl rfl hp
  case coilFeedbackChange h c x =>
    obtain rfl := Host.Outcome.next.inj he
    exact k.onChannelLine rfl rfl hp
  case jogTimerExpiry =>
    dsimp only [exec, execJogTimerExpiry] at he
    refine event_keeps k (fun hp => ?_) hp he
    repeat' split
    · exact hp
    · exact k.onJogEnd (k.onJog _ hp)
    · exact hp
  case keyServiceOpens =>
    obtain rfl := Host.Outcome.next.inj he
    have hk : P ∅ { s with keyService := false } := k.onKeys s.keyOverride false hp
    simp only
    split
    · exact hk
    · exact k.onSettle (k.onJogEnd hk)
  case loopCloses n =>
    obtain rfl := Host.Outcome.next.inj he
    exact k.onSetLoop n false hp
  case clearingTimerExpiry h =>
    refine event_keeps k (fun hp => ?_) hp he
    split
    · exact k.onClearLatch h hp
    · exact hp
  case runFeedbackChange i present =>
    obtain rfl := Host.Outcome.next.inj he
    have hs : P ∅ (s.setPump i { s.pump i with feedback := present }) := k.onPump id hp
    simp only
    repeat' split
    · exact hp
    · exact hs
    · exact k.onSettle (k.onFeedbackChanged i hs)
  case failToStart i =>
    dsimp only [exec, execFailToStart] at he
    refine event_keeps k (fun hp => ?_) hp he
    split
    · exact k.onPumpsChanged (k.onTripPump _ _ (k.onPump id hp))
    · exact hp
  case failToStop i =>
    dsimp only [exec, execFailToStop] at he
    refine event_keeps k (fun hp => ?_) hp he
    split
    · exact k.onPumpsChanged (k.onTripPump _ _ (k.onPump id hp))
    · exact hp
  case runAgeExpiry i =>
    dsimp only [exec, execRunAgeExpiry] at he
    refine quiet_keeps (fun hp => ?_) hp he
    split
    · exact k.onPump id hp
    · exact hp
  case lowTimerExpiry =>
    refine event_keeps k (fun hp => ?_) hp he
    split
    · exact k.onSyncAvailable (k.onSupply rfl rfl hp)
    · exact hp
  case recoveryTimerExpiry =>
    refine event_keeps k (fun hp => ?_) hp he
    split
    · exact k.onSyncAvailable (k.onSupply rfl rfl hp)
    · exact hp
  case idleTimerExpiry =>
    refine event_keeps k (fun hp => ?_) hp he
    split
    · exact k.onIdleExpires hp
    · exact hp
  case reductionTimerExpiry =>
    dsimp only [exec, execReductionTimerExpiry] at he
    refine event_keeps k (fun hp => ?_) hp he
    repeat' split
    · exact k.onPumpsChanged (k.onStopPump _ (k.onTimers rfl rfl hp))
    · exact hp
    · exact hp

end CommandsKeep

end Sys2Proof.Machine
end

section
/-!
What every step keeps: the commands of a general form by `CommandsKeep.onPlain`, and the four others and the passing of time
by what `StepKeeps` asks of them.
-/

namespace Sys2Proof.Machine
open Sys2Proof Sys2Proof.Safety

/-- Every command answers with a next state. -/
theorem exec_next (c : Instr) (s : State) : ∃ t, exec c s = .next t := by
  cases c <;> exact ⟨_, rfl⟩

/-- The predicate survives every command. -/
structure ExecKeeps (P : Set Hatch → State → Prop) : Prop extends CommandsKeep P where
  onHoldReset {s : State} (kept : Bool) (cause : ResetCause) : P ∅ s → P ∅ (holdReset s kept cause)
  onStarted {s : State} : P ∅ s → P ∅ (started s)
  onUpdateChannel {s : State} (h : Hatch) (c : Channel) : s.inReset = false → P ∅ s → P ∅ (updateChannel h c s)
  onLoopTrips {s : State} (n : Fin 10) : s.inReset = false → P ∅ s → P ∅ (loopTrips n s)

/-- The predicate survives every step. -/
structure StepKeeps (P : Set Hatch → State → Prop) : Prop extends ExecKeeps P where
  onTick {s : State} : P ∅ s → P ∅ (tick s)
  onQueue {s : State} (cs : List Instr) : P ∅ s → P ∅ { s with pending := cs }

namespace CommandsKeep
variable {P : Set Hatch → State → Prop} {s t : State}

/-- Every command keeps the predicate, where a reset, a start-up, a drive update and an opening loop keep it from this state. -/
theorem onExec (k : CommandsKeep P) (c : Instr) (hreset : ∀ b cause, P ∅ (holdReset s b cause)) (hstart : P ∅ (started s))
    (hupdate : ∀ h c, s.inReset = false → P ∅ (updateChannel h c s)) (hloop : ∀ n, s.inReset = false → P ∅ (loopTrips n s))
    (hp : P ∅ s) (he : exec c s = .next t) : P ∅ t := by
  cases hc : c.plain with
  | true => exact k.onPlain hc hp he
  | false =>
    cases c
    case reset source =>
      obtain rfl := Host.Outcome.next.inj he
      cases source with
      | supplyFell vbak => exact hreset _ _
      | resetN micros =>
        simp only
        split
        · exact hp
        · exact hreset _ _
    case startUp =>
      obtain rfl := Host.Outcome.next.inj he
      split
      · exact hstart
      · exact hp
    case driveUpdate h c =>
      obtain rfl := Host.Outcome.next.inj he
      split
      · exact hp
      · rename_i hr
        exact k.onSettle (hupdate h c (by simpa using hr))
    case loopOpens n =>
      obtain rfl := Host.Outcome.next.inj he
      split
      · exact hp
      · split
        · exact k.onSetLoop n true hp
        · rename_i hr
          exact k.onSettle (hloop n (by simpa using hr))
    all_goals cases hc

end CommandsKeep

/-- Every command keeps the predicate. -/
theorem ExecKeeps.onExec {P : Set Hatch → State → Prop} {s t : State} (k : ExecKeeps P) (c : Instr) (hp : P ∅ s)
    (he : exec c s = .next t) : P ∅ t :=
  k.toCommandsKeep.onExec c (fun b cause => k.onHoldReset b cause hp) (k.onStarted hp)
    (fun h c hr => k.onUpdateChannel h c hr hp) (fun n hr => k.onLoopTrips n hr hp) hp he

/-- Every step keeps the predicate. -/
theorem StepKeeps.onStep {P : Set Hatch → State → Prop} {s t : State} (k : StepKeeps P) (hp : P ∅ s) (he : step s = .next t) : P ∅ t := by
  simp only [step] at he
  split at he
  · obtain rfl := Host.Outcome.next.inj he
    exact k.onTick hp
  · exact k.onExec _ (k.onQueue _ hp) he

/-! ### Drive updates and trips -/

namespace HandoffsKeep
variable {P : Set Hatch → State → Prop} {S : Set Hatch} {s : State}

theorem onReportApplied (k : HandoffsKeep P) (h : Hatch) (hp : P S s) : P S (reportApplied s h) :=
  k.onJogReleaseIfRest (k.onSyncStall h (k.onPush _ hp))

theorem onRestingUpdate (k : HandoffsKeep P) (h : Hatch) (c : Channel) (hp : P S s) : P S (restingUpdate s h c) := by
  simp only [restingUpdate]
  repeat' split
  · exact k.onJogReleaseIfRest hp
  · exact hp
  · exact hp

/-- What a drive update hands on after its coil check keeps the predicate. -/
theorem onUpdateFound (k : HandoffsKeep P) (h : Hatch) (c : Channel)
    (hp : P S (coilFound (s.setChannel h c (updatedChannel s h c)) h c (s.channel h c)).1) :
    P S (updateChannel h c s) := by
  refine k.onPush _ ?_
  split
  · exact k.onRestingUpdate h c hp
  · exact k.onReportApplied h hp

end HandoffsKeep

/-- The predicate survives a cut and every change of the stop lines. -/
structure TripsKeep (P : Set Hatch → State → Prop) : Prop extends CommandsKeep P where
  onCut {S : Set Hatch} {s : State} (h : Hatch) : P S s → P S (cutHatch s h)
  onAnyStops {S : Set Hatch} {s : State} (x : StopLines) : P S s → P S { s with stops := x }

namespace TripsKeep
variable {P : Set Hatch → State → Prop} {S : Set Hatch} {s : State}

theorem onTakeTrip (k : TripsKeep P) (h : Hatch) (hp : P S s) : P S (takeTrip s h) :=
  k.onTripHatch h (k.onJogEndOn h (k.onCut h hp))

theorem onEstopTrip (k : TripsKeep P) (hp : P S s) : P S (estopTrip s) := by
  have trips : P S (allHatches.foldr (fun h s => takeTrip s h)
      ([(0 : PumpId), 1, 2].foldl stopPump { s with stops := { s.stops with estopLatch := true } })) :=
    CommandsKeep.onFoldr (fun h _ hu => k.onTakeTrip h hu)
      (k.onStopPump 2 (k.onStopPump 1 (k.onStopPump 0 (k.onAnyStops _ hp))))
  simp only [estopTrip]
  split
  · exact trips
  · exact k.onPumpsChanged trips

theorem onLoopTrips (k : TripsKeep P) (n : Fin 10) (hp : P S s) : P S (loopTrips n s) := by
  have hs : P S (setLoop s n true) := k.onSetLoop n true hp
  simp only [loopTrips]
  split
  · split
    · exact hs
    · exact k.onEstopTrip hs
  · split
    · exact k.onAnyStops _ hs
    · exact k.onTakeTrip _ (k.onAnyStops _ (k.onAnyStops _ hs))

end TripsKeep

/-- The predicate reads neither the Valve Drive nor the stop lines. -/
structure WorksKeep (P : Set Hatch → State → Prop) : Prop extends CommandsKeep P where
  onDrive {S : Set Hatch} {s : State} (d : Drive) : P S s → P S { s with drive := d }
  onAnyStops {S : Set Hatch} {s : State} (x : StopLines) : P S s → P S { s with stops := x }

namespace WorksKeep
variable {P : Set Hatch → State → Prop} {S : Set Hatch} {s : State}

theorem onCoilFound (k : WorksKeep P) (h : Hatch) (c : Channel) (before : ChannelRec) (hp : P S s) :
    P S (coilFound s h c before).1 := by
  have flag : ∀ r : ChannelRec, P S (s.setChannel h c r) := fun r => k.onDrive _ hp
  simp only [coilFound]
  split
  · split
    · simp only [declareStuckOn]
      split
      · exact flag _
      · exact k.onDrive _ (k.onDrive _ (flag _))
    · exact flag _
  · exact hp

theorem onUpdateChannel (k : WorksKeep P) (h : Hatch) (c : Channel) (hp : P S s) : P S (updateChannel h c s) :=
  k.onUpdateFound h c (k.onCoilFound h c _ (k.onDrive _ hp))

theorem tripsKeep (k : WorksKeep P) : TripsKeep P where
  toCommandsKeep := k.toCommandsKeep
  onCut _ := k.onDrive _
  onAnyStops := k.onAnyStops

/-- For such a predicate only a reset and a start-up are left to see to. -/
theorem execKeeps (k : WorksKeep P) (hreset : ∀ {s : State} (b : Bool) (c : ResetCause), P ∅ s → P ∅ (holdReset s b c))
    (hstart : ∀ {s : State}, P ∅ s → P ∅ (started s)) : ExecKeeps P where
  toCommandsKeep := k.toCommandsKeep
  onHoldReset := hreset
  onStarted := hstart
  onUpdateChannel h c _ hp := k.onUpdateChannel h c hp
  onLoopTrips n _ hp := k.tripsKeep.onLoopTrips n hp

end WorksKeep

/-! ### The passing of time -/

/-- The clock of the deadtimes and the jog timer, which every 10 ms moves (R114, R123). -/
def clocked (s : State) : State := { s with drive := tickDrive s.drive, ticks := s.ticks + 1 }

/-- The timers of 0.1 s, at every tenth tick. -/
def tenthCounted (s : State) : State := if s.ticks % 10 = 0 then tickTenth s else s

/-- The uptime, at every hundredth tick (R187). -/
def secondCounted (s : State) : State :=
  if 100 ≤ s.ticks then { s with ticks := 0, uptime := min (2 ^ 32 - 1) (s.uptime + 1) } else s

theorem tick_eq (s : State) : tick s = if s.inReset then s else secondCounted (tenthCounted (clocked s)) := rfl

/-- Ten milliseconds are the drive's clock, the timers of 0.1 s and the uptime. -/
theorem tick_keeps {Q : State → Prop} {s : State} (hdrive : ∀ {u : State}, Q u → Q (clocked u))
    (htenth : ∀ {u : State}, Q u → Q (tickTenth u))
    (hclock : ∀ {u : State} (a b : Nat), Q u → Q { u with ticks := a, uptime := b }) (hs : Q s) : Q (tick s) := by
  have tenth : Q (tenthCounted (clocked s)) := by
    unfold tenthCounted
    split
    · exact htenth (hdrive hs)
    · exact hdrive hs
  have second : Q (secondCounted (tenthCounted (clocked s))) := by
    unfold secondCounted
    split
    · exact hclock _ _ tenth
    · exact tenth
  rw [tick_eq]
  split
  · exact hs
  · exact second

/-! ### Predicates of the outer part -/

/-- The hand-offs keep whatever is read from the outer part, but for the frames to be sent. -/
theorem HandoffsKeep.of_outer {Q : State → Prop} (hq : ∀ {s t : State}, t.outer = s.outer → Q s → Q t)
    (hl : ∀ {s : State} {l : Link}, l.rx = s.link.rx → l.stations = s.link.stations → Q s → Q { s with link := l }) :
    HandoffsKeep fun _ => Q where
  mono _ h := h
  onAgenda _ := hq rfl
  onCtx _ := hq rfl
  onState _ := hq rfl
  onJudged _ := hq rfl
  onReclampEvent hf _ _ := hq (reclampEvent_outer _ hf)
  onSlot hs hr _ := hq (setSlot_outer _ (by rw [hs]; simp [hr]))
  onChannel hr := hq (setChannel_outer _ hr)
  onChannels hf := hq (updChannels_outer _ hf)
  onJog _ := hq rfl
  onAllocate := hq (allocate_outer _)
  onQueueStep _ _ _ := hq (queueEntry_outer _ _ _ _ _ _)
  onTakeLeave _ := hq (takeLeave_outer _ _)
  onTakeReclass _ := hq (takeReclass_outer _ _)
  onLink := hl

end Sys2Proof.Machine
end

section
/-!
The laws of the Hold List over every step (R26).
-/

namespace Sys2Proof.Machine
open Sys2Proof Sys2Proof.Safety

/-! ### The laws of a list of entries (R26) -/

theorem distinctEntries_iff {es : List HoldEntry} :
    distinctEntries es = true ↔ es.Pairwise fun e x => x.id ≠ e.id ∧ x.matches e = false := by
  induction es with
  | nil => simp [distinctEntries]
  | cons e es ih => simp [distinctEntries, ih]

theorem holdLaws_iff {es : List HoldEntry} : holdLaws es = true ↔
    es.length ≤ 48 ∧ (∀ e ∈ es, 1 ≤ e.count ∧ e.count ≤ 15) ∧
      es.Pairwise fun e x => x.id ≠ e.id ∧ x.matches e = false := by
  simp [holdLaws, distinctEntries_iff, and_assoc]

/-- A change of entries that keeps ids and what they match by, with counts in range, keeps the laws. -/
theorem holdLaws_map {es : List HoldEntry} {g : HoldEntry → HoldEntry} (hid : ∀ e, (g e).id = e.id)
    (hm : ∀ e x, (g x).matches (g e) = x.matches e) (hc : ∀ e ∈ es, 1 ≤ (g e).count ∧ (g e).count ≤ 15)
    (h : holdLaws es = true) : holdLaws (es.map g) = true := by
  rw [holdLaws_iff] at h ⊢
  obtain ⟨hlen, -, hd⟩ := h
  refine ⟨by simpa using hlen, ?_, ?_⟩
  · intro e he
    obtain ⟨x, hx, rfl⟩ := List.mem_map.mp he
    exact hc x hx
  · rw [List.pairwise_map]
    exact hd.imp fun {e x} ⟨hne, hno⟩ => ⟨by rwa [hid, hid], by rwa [hm]⟩

theorem holdLaws_filter {es : List HoldEntry} (p : HoldEntry → Bool) (h : holdLaws es = true) :
    holdLaws (es.filter p) = true := by
  rw [holdLaws_iff] at h ⊢
  obtain ⟨hlen, hc, hd⟩ := h
  exact ⟨(List.length_filter_le _ _).trans hlen, fun e he => hc e (List.mem_of_mem_filter he), hd.filter p⟩

/-! ### The id of a new entry (R28) -/

/-- A list of fewer than 255 entries leaves an id from 1 to 255 free. -/
theorem exists_free_id {es : List HoldEntry} (h : es.length < 255) :
    ∃ k ∈ (List.range 255).map (· + 1), ∀ e ∈ es, e.id ≠ k := by
  by_contra hn
  push Not at hn
  have hsub : (List.range 255).map (· + 1) ⊆ es.map (·.id) := by
    intro k hk
    obtain ⟨e, he, rfl⟩ := hn k hk
    exact List.mem_map_of_mem he
  have hnodup : ((List.range 255).map (· + 1)).Nodup := List.nodup_range.map (add_left_injective 1)
  have := (hnodup.subperm hsub).length_le
  simp at this
  omega

/-- The id of a new entry is held by no entry (R28). -/
theorem nextId_free {l : HoldList} (h : l.entries.length < 255) : ∀ e ∈ l.entries, e.id ≠ nextId l := by
  intro e he
  simp only [nextId]
  split
  · rename_i k hk
    have := List.find?_some hk
    simp only [Bool.and_eq_true, List.all_eq_true, bne_iff_ne] at this
    exact this.2 e he
  · obtain ⟨k, hk, hfree⟩ := exists_free_id h
    cases hf : ((List.range 255).map (· + 1)).find? fun k => l.entries.all fun e => e.id != k with
    | none =>
      have := List.find?_eq_none.mp hf k hk
      simp only [List.all_eq_true, bne_iff_ne] at this
      exact absurd hfree this
    | some j =>
      have := List.find?_some hf
      simp only [List.all_eq_true, bne_iff_ne] at this
      exact this e he

/-- A new entry with a free id that matches none keeps the laws. -/
theorem holdLaws_append {es : List HoldEntry} {e : HoldEntry} (h : holdLaws es = true) (hlen : es.length < 48)
    (hc : 1 ≤ e.count ∧ e.count ≤ 15) (hid : ∀ x ∈ es, x.id ≠ e.id) (hm : ∀ x ∈ es, x.matches e = false) :
    holdLaws (es ++ [e]) = true := by
  rw [holdLaws_iff] at h ⊢
  obtain ⟨-, hcs, hd⟩ := h
  refine ⟨by simpa using hlen, ?_, ?_⟩
  · intro x hx
    rcases List.mem_append.mp hx with hx | hx
    · exact hcs x hx
    · rw [List.mem_singleton.mp hx]; exact hc
  · rw [List.pairwise_append]
    refine ⟨hd, by simp, ?_⟩
    intro x hx y hy
    rw [List.mem_singleton.mp hy]
    refine ⟨(hid x hx).symm, ?_⟩
    have := hm x hx
    simp only [HoldEntry.matches, Bool.and_eq_false_iff, decide_eq_false_iff_not] at this ⊢
    tauto

theorem not_matches_of_matching_none {s : State} {n : StationId} {kind : HoldKind} {scope : BitVec 9}
    {panel : Option Panel} (h : matching s n kind scope panel = none) {e : HoldEntry} (hn : e.owner = n)
    (hk : e.kind = kind) (hs : e.scope = scope) (hp : e.panel = panel) :
    ∀ x ∈ s.holds.entries, x.matches e = false := by
  intro x hx
  have := List.find?_eq_none.mp h x hx
  simp only [Bool.and_eq_true, decide_eq_true_eq, not_and] at this
  simp only [HoldEntry.matches, hn, hk, hs, hp, Bool.and_eq_false_iff, decide_eq_false_iff_not]
  tauto

/-! ### The laws over every step -/

theorem holdsLawful_of_holds {s t : State} (h : t.holds = s.holds) (hl : HoldsLawful s) : HoldsLawful t := by
  simpa only [HoldsLawful, h] using hl

theorem holdsLawful_markEntries {s : State} (n : StationId) (b : Bool) (hl : HoldsLawful s) :
    HoldsLawful (markEntries s n b) := by
  refine holdLaws_map (es := s.holds.entries) ?_ ?_ ?_ hl
  · intro e; split <;> rfl
  · intro e x
    simp only [HoldEntry.matches]
    split <;> split <;> rfl
  · intro e he
    have := (holdLaws_iff.mp hl).2.1 e he
    split <;> exact this

theorem holdsLawful_started {s : State} : HoldsLawful (started s) := by
  have tested : holdLaws s.retention.tested.entries = true := by
    simp only [Retention.tested]
    split
    · rename_i hv
      simp only [Retention.valid, Bool.and_eq_true] at hv
      exact hv.1.2
    · decide
  refine holdLaws_map (es := s.retention.tested.entries) (fun _ => rfl) (fun _ _ => rfl) ?_ tested
  exact fun e he => (holdLaws_iff.mp tested).2.1 e he

theorem holdsLawful_worksKeep : WorksKeep fun _ => HoldsLawful where
  toHandoffsKeep := .of_outer (fun ho => holdsLawful_of_holds (holds_of_outer ho)) fun _ _ h => h
  onPopped h := h
  onKeys _ _ h := h
  onRetain i h := holdsLawful_of_holds (by rw [retain_eq]) h
  onRetentionWrite _ h := by
    refine holdsLawful_of_holds ?_ h
    simp only [nextWrite]
    split <;> rfl
  onRecord _ h := h
  onRecords _ h := h
  onTableBuilt _ h := h
  onStore _ _ h := h
  onPump _ h := h
  onAvailable _ h := holdsLawful_of_holds (holds_of_outer (allocate_outer _)) h
  onSupply _ _ h := h
  onTimers _ _ h := h
  onQueueJog _ _ h := holdsLawful_of_holds (holds_of_outer (queueEntry_outer _ _ _ _ _ _)) h
  onStation _ _ h := h
  onMarkEntries n b h := holdsLawful_markEntries n b h
  onJoinFifo f h := by
    refine holdsLawful_of_holds ?_ h
    simp only [joinFifo]
    split <;> rfl
  onPlaced _ _ hm hlen h :=
    holdLaws_append h hlen ⟨le_rfl, Nat.one_le_ofNat⟩ (nextId_free (by omega))
      (not_matches_of_matching_none hm rfl rfl rfl rfl)
  onRecounted {S s e n} he hn h := by
    have hcount := (holdLaws_iff.mp h).2.1
    refine holdLaws_map (es := s.holds.entries) ?_ ?_ ?_ h
    · intro x; split <;> rfl
    · intro x y
      simp only [HoldEntry.matches]
      split <;> split <;> rfl
    · intro x hx
      have := hcount x hx
      have := hcount e he
      split
      · simp only; omega
      · omega
  onLifted e h := holdLaws_filter _ h
  onJunction _ _ h := h
  onJunctionKept _ _ h := h
  onAnalog _ h := h
  onStops _ h := h
  onChannelLine _ _ h := h
  onAckValves _ h := h
  onDrive _ h := h
  onAnyStops _ h := h

theorem holdsLawful_stepKeeps : StepKeeps fun _ => HoldsLawful where
  toExecKeeps := holdsLawful_worksKeep.execKeeps (fun _ _ _ => rfl) fun _ => holdsLawful_started
  onTick := tick_keeps (fun h => h) (fun h => h) fun _ _ h => h
  onQueue _ h := h

end Sys2Proof.Machine

namespace Sys2Proof.HoldLifts
open Sys2Proof Sys2Proof.Machine Sys2Proof.Safety

/-- Settles O17: the list changes in five ways only, and each keeps its laws. -/
theorem stepKeepsHoldLaws : Obligations.StepKeepsHoldLaws :=
  fun _ _ hl he => holdsLawful_stepKeeps.onStep hl he

end Sys2Proof.HoldLifts
end

section
/-!
The queue of commands, which no command changes, and the bounds of the deck link over every step (R160, R163).
-/

namespace Sys2Proof.Machine
open Sys2Proof Sys2Proof.Safety

/-! ### The queue -/

/-- The queue reads as it did. -/
def QueueIs (q : List Instr) (s : State) : Prop := s.pending = q

theorem queueIs_of_pending {q : List Instr} {s t : State} (h : t.pending = s.pending) (hs : QueueIs q s) : QueueIs q t :=
  h.trans hs

theorem queueIs_worksKeep (q : List Instr) : WorksKeep fun _ => QueueIs q where
  toHandoffsKeep := .of_outer (fun ho => queueIs_of_pending (pending_of_outer ho)) fun _ _ h => h
  onPopped h := h
  onKeys _ _ h := h
  onRetain i h := queueIs_of_pending (by rw [retain_eq]) h
  onRetentionWrite _ h := by
    refine queueIs_of_pending ?_ h
    simp only [nextWrite]
    split <;> rfl
  onRecord _ h := h
  onRecords _ h := h
  onTableBuilt _ h := h
  onStore _ _ h := h
  onPump _ h := h
  onAvailable _ h := queueIs_of_pending (pending_of_outer (allocate_outer _)) h
  onSupply _ _ h := h
  onTimers _ _ h := h
  onQueueJog _ _ h := queueIs_of_pending (pending_of_outer (queueEntry_outer _ _ _ _ _ _)) h
  onStation _ _ h := h
  onMarkEntries _ _ h := h
  onJoinFifo f h := by
    refine queueIs_of_pending ?_ h
    simp only [joinFifo]
    split <;> rfl
  onPlaced _ _ _ _ h := h
  onRecounted _ _ h := h
  onLifted _ h := h
  onJunction _ _ h := h
  onJunctionKept _ _ h := h
  onAnalog _ h := h
  onStops _ h := h
  onChannelLine _ _ h := h
  onAckValves _ h := h
  onDrive _ h := h
  onAnyStops _ h := h

/-! ### The bounds of the link -/

theorem linkBounded_of_link {s t : State} (hr : t.link.rx = s.link.rx) (hs : t.link.stations = s.link.stations)
    (h : LinkBounded s) : LinkBounded t := by
  simpa only [LinkBounded, State.station, hr, hs] using h

theorem linkBounded_joinFifo {s : State} (f : RxFrame) (h : LinkBounded s) : LinkBounded (joinFifo s f) := by
  obtain ⟨hlen, hst⟩ := h
  simp only [joinFifo]
  split
  · rename_i hroom
    refine ⟨?_, hst⟩
    simp only [List.length_append, List.length_singleton]
    omega
  · exact ⟨hlen, hst⟩

theorem linkBounded_setStation {s : State} {n : StationId} (r : Station)
    (hn : 13 < n.val → (s.station n).present = true ∨ (s.station n).outstanding.isSome = true) (h : LinkBounded s) :
    LinkBounded (s.setStation n r) := by
  obtain ⟨hlen, hst⟩ := h
  refine ⟨hlen, fun m hm => ?_⟩
  by_cases hnm : n = m
  · subst hnm
    obtain ⟨hp, ho⟩ := hst n hm
    rcases hn hm with h | h
    · rw [hp] at h; cases h
    · rw [ho] at h; cases h
  · have : (s.setStation n r).station m = s.station m := by simp [State.station, State.setStation, hnm]
    rw [this]
    exact hst m hm

theorem linkBounded_worksKeep : WorksKeep fun _ => LinkBounded where
  toHandoffsKeep :=
    .of_outer (fun ho => linkBounded_of_link (rx_of_outer ho) (stations_of_outer ho)) fun hr hs h => linkBounded_of_link hr hs h
  onPopped {S s} h := ⟨by
    have := h.1
    simp only [popped, List.length_tail]
    omega, h.2⟩
  onKeys _ _ h := h
  onRetain i h := linkBounded_of_link (by rw [retain_link]) (by rw [retain_link]) h
  onRetentionWrite _ h := by
    refine linkBounded_of_link ?_ ?_ h
    all_goals
      simp only [nextWrite]
      split <;> rfl
  onRecord _ h := h
  onRecords _ h := h
  onTableBuilt _ h := h
  onStore _ _ h := h
  onPump _ h := h
  onAvailable _ h := linkBounded_of_link (by rw [allocate_link]) (by rw [allocate_link]) h
  onSupply _ _ h := h
  onTimers _ _ h := h
  onQueueJog _ _ h := linkBounded_of_link (by rw [link_of_ports (queueEntry_ports _ _ _ _ _ _)])
    (by rw [link_of_ports (queueEntry_ports _ _ _ _ _ _)]) h
  onStation r hn h := linkBounded_setStation r hn h
  onMarkEntries _ _ h := h
  onJoinFifo f h := linkBounded_joinFifo f h
  onPlaced _ _ _ _ h := h
  onRecounted _ _ h := h
  onLifted _ h := h
  onJunction _ _ h := h
  onJunctionKept _ _ h := h
  onAnalog _ h := h
  onStops _ h := h
  onChannelLine _ _ h := h
  onAckValves _ h := h
  onDrive _ h := h
  onAnyStops _ h := h

/-- A reset leaves the FIFO empty and every station ABSENT (R160). -/
theorem linkBounded_of_reset {s : State} (h : s.link = State.reset.link) : LinkBounded s := by
  simp only [LinkBounded, State.station, h]
  exact ⟨Nat.zero_le _, fun n _ => by simp [State.reset, Station.reset]⟩

theorem linkBounded_tickTenth {s : State} (h : LinkBounded s) : LinkBounded (tickTenth s) := by
  refine ⟨h.1, fun n hn => ?_⟩
  obtain ⟨hp, ho⟩ := h.2 n hn
  have : (tickTenth s).station n = (s.station n).ticked := by simp [State.station, tickTenth]
  rw [this]
  simp [Station.ticked, hp, ho]

theorem linkBounded_stepKeeps : StepKeeps fun _ => LinkBounded where
  toExecKeeps := linkBounded_worksKeep.execKeeps (fun _ _ _ => linkBounded_of_reset rfl) fun _ => linkBounded_of_reset rfl
  onTick := tick_keeps (fun h => h) linkBounded_tickTenth fun _ _ h => h
  onQueue _ h := h

end Sys2Proof.Machine

namespace Sys2Proof.DeckLink
open Sys2Proof Sys2Proof.Machine Sys2Proof.Safety

/-- Settles O2: every command answers, and only the step itself takes from the queue. -/
theorem commandsKeepQueue : Obligations.CommandsKeepQueue := by
  intro c s
  obtain ⟨t, ht⟩ := exec_next c s
  exact ⟨t, ht, ((queueIs_worksKeep s.pending).execKeeps (fun _ _ h => h) fun h => h).onExec c rfl ht⟩

/-- Settles O13: the FIFO grows only where it has room, and no frame or write names station 14 or 15. -/
theorem stepKeepsLinkBounds : Obligations.StepKeepsLinkBounds :=
  fun _ _ hl he => linkBounded_stepKeeps.onStep hl he

end Sys2Proof.DeckLink
end

section
/-!
The counts of the cleat records and of the retention memory over every step (R2, R15, R24).
-/

namespace Sys2Proof.Machine
open Sys2Proof Sys2Proof.Safety

/-! ### What the Arbiter leaves alone -/

/-- Of the two, the later part differs in the Arbiter, the supply and the hand-offs alone. -/
def FlowOnly (s t : State) : Prop := t = { s with arbiter := t.arbiter, supply := t.supply, agenda := t.agenda }

theorem FlowOnly.refl (s : State) : FlowOnly s s := rfl

theorem allocate_flowOnly (s : State) : FlowOnly s (allocate s) := by
  simp only [FlowOnly, allocate]
  split <;> rfl

theorem queueEntry_flowOnly (s : State) (h : Hatch) (d : Demand) (c : Cls) (n m : Nat) :
    FlowOnly s (queueEntry s h d c n m) := by
  simp only [FlowOnly, queueEntry]
  split <;> rfl

theorem takeLeave_flowOnly (s : State) (h : Hatch) : FlowOnly s (takeLeave s h) := by
  simp only [takeLeave]
  split
  · exact (allocate_flowOnly _).trans rfl
  · rfl

theorem takeReclass_flowOnly (s : State) (h : Hatch) : FlowOnly s (takeReclass s h) := by
  simp only [takeReclass]
  repeat' split
  · rfl
  · rfl
  · exact (allocate_flowOnly _).trans rfl

section
variable {s t : State}

theorem FlowOnly.field {α : Type} (h : FlowOnly s t) (f : State → α)
    (hf : ∀ a p ts, f { s with arbiter := a, supply := p, agenda := ts } = f s) : f t = f s :=
  (congrArg f (show t = _ from h)).trans (hf _ _ _)

theorem FlowOnly.table (h : FlowOnly s t) : t.table = s.table := h.field State.table fun _ _ _ => rfl
theorem FlowOnly.hatches (h : FlowOnly s t) : t.hatches = s.hatches := h.field State.hatches fun _ _ _ => rfl
theorem FlowOnly.drive (h : FlowOnly s t) : t.drive = s.drive := h.field State.drive fun _ _ _ => rfl
theorem FlowOnly.junctions (h : FlowOnly s t) : t.junctions = s.junctions := h.field State.junctions fun _ _ _ => rfl
theorem FlowOnly.link (h : FlowOnly s t) : t.link = s.link := h.field State.link fun _ _ _ => rfl
theorem FlowOnly.store (h : FlowOnly s t) : t.store = s.store := h.field State.store fun _ _ _ => rfl
theorem FlowOnly.retention (h : FlowOnly s t) : t.retention = s.retention := h.field State.retention fun _ _ _ => rfl

end

/-! ### The ranges -/

/-- A write to the retention memory carries a fault count in range (R24). -/
def RetWrite.Ranged : RetWrite → Prop
  | .holds _ _ => True
  | .cleat _ k => k.faultCount ≤ 255

theorem recordsInRange_iff {s : State} : RecordsInRange s ↔
    (∀ id r, s.slot id = some r → r.Ranged) ∧ (∀ id, (s.retention.cleats.get id).faultCount ≤ 255) ∧
      ∀ w, s.retention.underWay = some w → w.Ranged := by
  refine and_congr Iff.rfl (and_congr Iff.rfl ⟨fun h w hw => ?_, fun h id k hk => h _ hk⟩)
  cases w with
  | holds es c => trivial
  | cleat id k => exact h id k hw

theorem recordsInRange_congr {s t : State} (hs : t.table.slots = s.table.slots) (hr : t.retention = s.retention)
    (h : RecordsInRange s) : RecordsInRange t := by
  simpa only [RecordsInRange, State.slot, hs, hr] using h

theorem recordsInRange_of_flowOnly {s t : State} (hf : FlowOnly s t) (h : RecordsInRange s) : RecordsInRange t :=
  recordsInRange_congr (by rw [hf.table]) hf.retention h

/-- New slots that are in range, beside the same retention memory. -/
theorem recordsInRange_slots {s : State} {f : CleatId → Option CleatRec} (hf : ∀ id r, f id = some r → r.Ranged)
    (h : RecordsInRange s) : RecordsInRange { s with table := { s.table with slots := Tbl.build f } } := by
  refine ⟨fun id r hr => hf id r ?_, h.2⟩
  simpa [State.slot] using hr

theorem recordsInRange_setSlot {s : State} {id : CleatId} {x : Option CleatRec} (hx : ∀ r, x = some r → r.Ranged)
    (h : RecordsInRange s) : RecordsInRange (s.setSlot id x) := by
  refine ⟨fun j r hr => ?_, h.2⟩
  simp only [State.slot, State.setSlot, Tbl.get_set] at hr
  split at hr
  · exact hx r hr
  · exact h.1 j r hr

theorem steady_counts {r r' : CleatRec} (h : r'.steady = r.steady) :
    r'.faultCount = r.faultCount ∧ r'.history = r.history := by
  simp only [CleatRec.steady, CleatRec.mk.injEq] at h
  exact ⟨h.2.2.2.2.2.2.2.1, h.2.2.2.1⟩

/-- A change of the reclamp fields alone that keeps the tries in range keeps the record in range. -/
theorem ranged_of_steady {r r' : CleatRec} (h : r'.steady = r.steady) (ht : r'.tries ≤ 3) (hr : r.Ranged) : r'.Ranged := by
  obtain ⟨hcount, hhistory⟩ := steady_counts h
  exact ⟨ht, hcount ▸ hr.2.1, hhistory ▸ hr.2.2⟩

theorem retWriteOf_ranged {s : State} (h : RecordsInRange s) (i : RetItem) : (retWriteOf s i).Ranged := by
  cases i with
  | holds => trivial
  | cleat id =>
    simp only [retWriteOf, RetWrite.Ranged, keptOf]
    split
    · exact Nat.zero_le _
    · rename_i r hr
      exact (h.1 id r hr).2.1

theorem recordsInRange_retain {s : State} (i : RetItem) (h : RecordsInRange s) : RecordsInRange (retain s i) := by
  have hw := retWriteOf_ranged h i
  rw [recordsInRange_iff] at h ⊢
  obtain ⟨hslots, hcleats, hunder⟩ := h
  simp only [retain]
  split
  · exact ⟨hslots, hcleats, fun w h => Option.some.inj h ▸ hw⟩
  · split <;> exact ⟨hslots, hcleats, hunder⟩

theorem recordsInRange_nextWrite {s : State} (h : RecordsInRange s) : RecordsInRange (nextWrite s) := by
  simp only [nextWrite]
  split
  · exact ⟨h.1, h.2.1, fun _ _ h => by cases h⟩
  · rename_i i is _
    have hw := retWriteOf_ranged h i
    rw [recordsInRange_iff] at h ⊢
    exact ⟨h.1, h.2.1, fun w h => Option.some.inj h ▸ hw⟩

/-- A record built from the layout starts its counts at 0. -/
theorem builtSlot_ranged {p : Image} {id : CleatId} {r : CleatRec} (h : builtSlot p id = some r) : r.Ranged := by
  simp only [builtSlot] at h
  split at h
  · obtain rfl := Option.some.inj h
    exact ⟨Nat.zero_le _, Nat.zero_le _, Nat.zero_le _⟩
  · cases h

theorem restoredSlot_ranged {k : Kept} {built : Option CleatRec} {r : CleatRec} (hk : k.faultCount ≤ 255)
    (hb : ∀ x, built = some x → x.Ranged) (h : restoredSlot k built = some r) : r.Ranged := by
  simp only [restoredSlot] at h
  split at h
  · split at h
    · rename_i b _ _ _
      obtain rfl := Option.some.inj h
      obtain ⟨htries, -, hhistory⟩ := hb b rfl
      exact ⟨htries, hk, hhistory⟩
    · cases h
  · exact hb r h

/-- The retention memory as the start-up test leaves it keeps counts in range (R186). -/
theorem tested_faultCount (r : Retention) (id : CleatId) : (r.tested.cleats.get id).faultCount ≤ 255 := by
  simp only [Retention.tested]
  split
  · rename_i hv
    simp only [Retention.valid, Bool.and_eq_true, List.all_eq_true] at hv
    have := hv.2 _ (List.getElem_mem (by rw [r.cleats.len]; exact id.isLt) : r.cleats.get id ∈ r.cleats.items)
    simp only [Kept.inRange, Bool.and_eq_true, decide_eq_true_eq] at this
    exact this.1.1
  · simp [Kept.built]

theorem recordsInRange_committed {s : State} {w : RetWrite} (hw : s.retention.underWay = some w) (h : RecordsInRange s) :
    RecordsInRange { s with retention := s.retention.committed w } := by
  have hranged := (recordsInRange_iff.mp h).2.2 w hw
  obtain ⟨hslots, hcleats, hunder⟩ := h
  cases w with
  | holds es c => exact ⟨hslots, hcleats, hunder⟩
  | cleat id k =>
    refine ⟨hslots, fun j => ?_, hunder⟩
    simp only [Retention.committed, Tbl.get_set]
    split
    · exact hranged
    · exact hcleats j

/-- No record stands right after a reset. -/
theorem recordsInRange_of_blank {t : State} (hs : t.table = State.reset.table)
    (hc : ∀ id, (t.retention.cleats.get id).faultCount ≤ 255) (hu : t.retention.underWay = none) : RecordsInRange t := by
  refine ⟨fun id r hr => ?_, hc, fun _ _ h => by rw [hu] at h; cases h⟩
  rw [State.slot, hs] at hr
  simp [State.reset] at hr

theorem recordsInRange_started {s : State} : RecordsInRange (started s) := by
  refine recordsInRange_of_blank rfl (tested_faultCount _) ?_
  simp only [started, Retention.tested]
  split <;> rfl

/-! ### Over every step -/

theorem recordsInRange_worksKeep : WorksKeep fun _ => RecordsInRange where
  mono _ h := h
  onAgenda _ h := h
  onCtx _ h := h
  onState _ h := h
  onJudged _ h := h
  onReclampEvent hf ht _ h := by
    refine recordsInRange_slots (fun id r hr => ?_) h
    split at hr
    · obtain ⟨x, hx, rfl⟩ := Option.map_eq_some_iff.mp hr
      have hranged := h.1 id x hx
      split
      · exact ranged_of_steady (hf x) (ht x hranged.1) hranged
      · exact hranged
    · exact h.1 id r hr
  onSlot hs hf ht h :=
    recordsInRange_setSlot (fun _ hr => Option.some.inj hr ▸ ranged_of_steady hf (ht ▸ (h.1 _ _ hs).1) (h.1 _ _ hs)) h
  onChannel _ h := h
  onChannels _ h := h
  onJog _ h := h
  onAllocate := recordsInRange_of_flowOnly (allocate_flowOnly _)
  onQueueStep _ _ _ := recordsInRange_of_flowOnly (queueEntry_flowOnly _ _ _ _ _ _)
  onTakeLeave _ := recordsInRange_of_flowOnly (takeLeave_flowOnly _ _)
  onTakeReclass _ := recordsInRange_of_flowOnly (takeReclass_flowOnly _ _)
  onLink _ _ h := h
  onPopped h := h
  onKeys _ _ h := h
  onRetain i h := recordsInRange_retain i h
  onRetentionWrite hw h := recordsInRange_nextWrite (recordsInRange_committed hw h)
  onRecord hx h := recordsInRange_setSlot (fun r hr => hx r hr fun y hy => h.1 _ y hy) h
  onRecords hf h := by
    refine recordsInRange_slots (fun id r hr => ?_) h
    split at hr
    · obtain ⟨x, hx, rfl⟩ := Option.map_eq_some_iff.mp hr
      exact hf id x (h.1 id x hx)
    · exact h.1 id r hr
  onTableBuilt _ h :=
    recordsInRange_slots (fun id _ hr => restoredSlot_ranged (h.2.1 id) (fun _ hx => builtSlot_ranged hx) hr) h
  onStore _ _ h := h
  onPump _ h := h
  onAvailable _ h := recordsInRange_of_flowOnly (allocate_flowOnly _) h
  onSupply _ _ h := h
  onTimers _ _ h := h
  onQueueJog _ _ := recordsInRange_of_flowOnly (queueEntry_flowOnly _ _ _ _ _ _)
  onStation _ _ h := h
  onMarkEntries _ _ h := h
  onJoinFifo f h := by
    refine recordsInRange_congr ?_ ?_ h
    all_goals
      simp only [joinFifo]
      split <;> rfl
  onPlaced _ _ _ _ h := h
  onRecounted _ _ h := h
  onLifted _ h := h
  onJunction _ _ h := h
  onJunctionKept _ _ h := h
  onAnalog _ h := h
  onStops _ h := h
  onChannelLine _ _ h := h
  onAckValves _ h := h
  onDrive _ h := h
  onAnyStops _ h := h

theorem recordsInRange_stepKeeps : StepKeeps fun _ => RecordsInRange where
  toExecKeeps := recordsInRange_worksKeep.execKeeps
    (fun _ _ h => recordsInRange_of_blank rfl h.2.1 rfl) fun _ => recordsInRange_started
  onTick := tick_keeps (fun h => h) (fun h => h) fun _ _ h => h
  onQueue _ h := h

end Sys2Proof.Machine

namespace Sys2Proof.Cleats
open Sys2Proof Sys2Proof.Machine Sys2Proof.Safety

/-- Settles O27: each count is raised only below its limit, and the retention memory takes the counts of records in range. -/
theorem stepKeepsRecordRanges : Obligations.StepKeepsRecordRanges :=
  fun _ _ hl he => recordsInRange_stepKeeps.onStep hl he

end Sys2Proof.Cleats
end

section
/-!
The working directions of the channels and the rest of tripped hatches over every step (R112 to R115, R126).
-/

namespace Sys2Proof.Machine
open Sys2Proof Sys2Proof.Safety

/-! ### Channels after each kind of change -/

theorem State.channel_setChannel_eq (s : State) (h g : Hatch) (c e : Channel) (r : ChannelRec) :
    (s.setChannel h c r).channel g e = if h = g ∧ c = e then r else s.channel g e := by
  by_cases hg : h = g
  · subst hg
    by_cases hc : c = e
    · subst hc
      simp
    · simp [State.setChannel, State.channel, hc]
  · simp [State.setChannel, State.channel, hg]

theorem State.channel_updChannels_eq (s : State) (h g : Hatch) (f : Channel → ChannelRec → ChannelRec) (e : Channel) :
    (s.updChannels h f).channel g e = if h = g then f e (s.channel g e) else s.channel g e := by
  by_cases hg : h = g
  · subst hg; simp
  · simp [hg]

theorem channel_cutHatch (s : State) (h g : Hatch) (e : Channel) :
    (cutHatch s h).channel g e = if h = g then (s.channel g e).cutOff s.params.deadtime else s.channel g e :=
  State.channel_updChannels_eq s h g _ e

theorem channel_tickDrive (s : State) (h : Hatch) (c : Channel) :
    (clocked s).channel h c = { s.channel h c with deadtime := downTen (s.channel h c).deadtime } := by
  simp [State.channel, clocked, tickDrive]

/-- The coil stands as it did, or the channel is off. -/
def KeptOrOff (r r' : ChannelRec) : Prop := (r'.applied = r.applied ∧ r'.working = r.working) ∨ (r'.applied = 0 ∧ r'.working = none)

/-- What a coil check finds can only switch a channel off (R117, R118). -/
theorem coilFound_keptOrOff (s : State) (h : Hatch) (c : Channel) (before : ChannelRec) (g : Hatch) (e : Channel) :
    KeptOrOff (s.channel g e) ((coilFound s h c before).1.channel g e) := by
  have flag : KeptOrOff (s.channel g e) ((s.setChannel h c { s.channel h c with coilFault := true }).channel g e) := by
    rw [State.channel_setChannel_eq]
    split
    · rename_i hge
      obtain ⟨rfl, rfl⟩ := hge
      exact .inl ⟨rfl, rfl⟩
    · exact .inl ⟨rfl, rfl⟩
  simp only [coilFound]
  split
  · split
    · simp only [declareStuckOn]
      split
      · exact flag
      · change KeptOrOff _ ((State.updChannels _ h _).channel g e)
        rw [State.channel_updChannels_eq]
        split
        · exact .inr ⟨rfl, rfl⟩
        · exact flag
    · simp only [declareOpenCoil, State.channel_setChannel_eq]
      split
      · exact .inr ⟨rfl, rfl⟩
      · exact .inl ⟨rfl, rfl⟩
  · exact .inl ⟨rfl, rfl⟩

@[simp] theorem coilFound_stops (s : State) (h : Hatch) (c : Channel) (before : ChannelRec) :
    (coilFound s h c before).1.stops = s.stops := by
  simp only [coilFound, declareStuckOn, declareOpenCoil]
  repeat' split
  all_goals rfl

/-! ### The law of the directions -/

/-- A channel record may take or keep this direction at a step (R112, R114). -/
def ChannelRec.Turns (r : ChannelRec) (d : Dir) : Prop := r.working = some d ∨ (r.working = none ∧ r.deadtime = 0)

/-- Each direction of the part is one that the earlier part allows. -/
def DirectionsFrom (s t : State) : Prop := ∀ h c d, (t.channel h c).working = some d → (s.channel h c).Turns d

/-- A channel takes a direction from NONE with its deadtime run out, and otherwise keeps or loses it. -/
theorem stepped_turns {r : ChannelRec} {p : Image} {held proportional : Bool} {d : Dir}
    (h : (r.stepped p held proportional).working = some d) : r.Turns d := by
  simp only [ChannelRec.stepped, ChannelRec.moved] at h
  repeat' split at h
  all_goals first
    | exact .inl h
    | exact .inr ⟨by assumption, by assumption⟩
    | exact absurd h (by simp)

theorem directionsFrom_self (s : State) : DirectionsFrom s s := fun _ _ _ h => .inl h

/-- A part that keeps each direction or gives it up allows what the earlier part allows. -/
theorem DirectionsFrom.mono {s t u : State} (hu : ∀ h c, (u.channel h c).working = (t.channel h c).working ∨
    (u.channel h c).working = none) (ht : DirectionsFrom s t) : DirectionsFrom s u := by
  intro h c d hd
  rcases hu h c with hk | hn
  · exact ht h c d (hk ▸ hd)
  · rw [hn] at hd; cases hd

theorem DirectionsFrom.congr {s t u : State} (hd : u.drive.channels = t.drive.channels) (ht : DirectionsFrom s t) :
    DirectionsFrom s u := by
  simpa only [DirectionsFrom, State.channel, hd] using ht

theorem directionsFrom_handoffsKeep (s : State) : HandoffsKeep fun _ => DirectionsFrom s :=
  .of_outer (fun ho => .mono fun h c => .inl (congrArg (·.working) (plant_of_outer ho h c))) fun _ _ h => h

theorem directionsFrom_tripsKeep (s : State) : TripsKeep fun _ => DirectionsFrom s where
  toHandoffsKeep := directionsFrom_handoffsKeep s
  onPopped h := h
  onKeys _ _ h := h
  onRetain i h := h.congr (by rw [retain_eq])
  onRetentionWrite _ h := h.congr (by simp only [nextWrite]; split <;> rfl)
  onRecord _ h := h
  onRecords _ h := h
  onTableBuilt _ h := h
  onStore _ _ h := h
  onPump _ h := h
  onAvailable _ h := h.congr (congrArg _ (allocate_flowOnly _).drive)
  onSupply _ _ h := h
  onTimers _ _ h := h
  onQueueJog _ _ h := h.congr (congrArg _ (queueEntry_flowOnly _ _ _ _ _ _).drive)
  onStation _ _ h := h
  onMarkEntries _ _ h := h
  onJoinFifo f h := h.congr (by simp only [joinFifo]; split <;> rfl)
  onPlaced _ _ _ _ h := h
  onRecounted _ _ h := h
  onLifted _ h := h
  onJunction _ _ h := h
  onJunctionKept _ _ h := h
  onAnalog _ h := h
  onStops _ h := h
  onChannelLine _ hw := .mono fun g e => by
    rw [State.channel_setChannel_eq]
    split
    · rename_i hge
      obtain ⟨rfl, rfl⟩ := hge
      exact .inl hw
    · exact .inl rfl
  onAckValves h := .mono fun g e => by
    change (State.channel (State.updChannels _ h _) g e).working = _ ∨ _
    rw [State.channel_updChannels_eq]
    split <;> exact .inl rfl
  onCut h := .mono fun g e => by
    rw [channel_cutHatch]
    split
    · exact .inr rfl
    · exact .inl rfl
  onAnyStops _ h := h

/-- A drive update turns one channel at most, and its coil check can only switch channels off. -/
theorem directionsFrom_updateChannel (s : State) (h : Hatch) (c : Channel) : DirectionsFrom s (updateChannel h c s) := by
  refine (directionsFrom_handoffsKeep s).onUpdateFound (S := ∅) h c ?_
  refine DirectionsFrom.mono (t := s.setChannel h c (updatedChannel s h c)) (fun g e => ?_) fun g e d hd => ?_
  · rcases coilFound_keptOrOff (s.setChannel h c (updatedChannel s h c)) h c (s.channel h c) g e with hk | ho
    · exact .inl hk.2
    · exact .inr ho.2
  · rw [State.channel_setChannel_eq] at hd
    split at hd
    · rename_i hge
      obtain ⟨rfl, rfl⟩ := hge
      exact stepped_turns hd
    · exact .inl hd

theorem directionsFrom_of_rest {s t : State} (ht : ∀ h c, (t.channel h c).working = none) : DirectionsFrom s t :=
  fun h c d hd => by rw [ht h c] at hd; cases hd

/-- Every channel is at rest after a reset (R109). -/
theorem channel_blank (s : State) (h : Hatch) (c : Channel) : (blank s).channel h c = .reset (s.channel h c).sensed := by
  simp [State.channel, blank, State.reset]

theorem directionsFrom_exec {s t : State} {c : Instr} (he : exec c s = .next t) : DirectionsFrom s t := by
  have k := directionsFrom_tripsKeep s
  have rest : ∀ h c, ((blank s).channel h c).working = none := fun h c => by rw [channel_blank]; rfl
  exact k.onExec (s := s) c (fun _ _ => directionsFrom_of_rest rest) (directionsFrom_of_rest rest)
    (fun h c _ => directionsFrom_updateChannel s h c) (fun n _ => k.onLoopTrips (S := ∅) n (directionsFrom_self s))
    (directionsFrom_self s) he

theorem directionsFrom_tick (s : State) : DirectionsFrom s (tick s) :=
  tick_keeps (Q := DirectionsFrom s) (.mono fun h c => .inl (by rw [channel_tickDrive])) (fun h => h) (fun _ _ h => h)
    (directionsFrom_self s)

/-! ### The rest of a tripped hatch -/

/-- Every channel of a tripped hatch stands at applied 0, but for the hatches that a trip has still to cut (R126). -/
def TrippedAtRestBut (E : Set Hatch) (s : State) : Prop := ∀ h ∉ E, ∀ c, s.tripped h = true → (s.channel h c).applied = 0

theorem trippedAtRestBut_empty {s : State} : TrippedAtRestBut ∅ s ↔ TrippedAtRest s :=
  ⟨fun h g c => h g (Set.notMem_empty g) c, fun h g _ c => h g c⟩

/-- No more hatches are tripped, and each channel is at rest or as before. -/
theorem TrippedAtRestBut.mono {E : Set Hatch} {s t : State} (ht : ∀ h, t.tripped h = true → s.tripped h = true)
    (hc : ∀ h c, (t.channel h c).applied = (s.channel h c).applied ∨ (t.channel h c).applied = 0)
    (hs : TrippedAtRestBut E s) : TrippedAtRestBut E t := by
  intro h hE c htrip
  rcases hc h c with hk | ho
  · rw [hk]; exact hs h hE c (ht h htrip)
  · exact ho

theorem TrippedAtRestBut.congr {E : Set Hatch} {s t : State} (hd : t.drive.channels = s.drive.channels)
    (hx : t.stops = s.stops) (hs : TrippedAtRestBut E s) : TrippedAtRestBut E t := by
  simpa only [TrippedAtRestBut, State.channel, State.tripped, hd, hx] using hs

theorem trippedAtRest_commandsKeep (E : Set Hatch) : CommandsKeep fun _ => TrippedAtRestBut E where
  toHandoffsKeep := .of_outer (fun ho => .mono (fun h => by simp only [State.tripped, stops_of_outer ho, imp_self])
    fun h c => .inl (applied_of_outer ho h c)) fun _ _ h => h
  onPopped h := h
  onKeys _ _ h := h
  onRetain i h := h.congr (by rw [retain_eq]) (by rw [retain_eq])
  onRetentionWrite _ h := h.congr (by simp only [nextWrite]; split <;> rfl) (by simp only [nextWrite]; split <;> rfl)
  onRecord _ h := h
  onRecords _ h := h
  onTableBuilt _ h := h
  onStore _ _ h := h
  onPump _ h := h
  onAvailable _ h := h.congr (congrArg _ (allocate_flowOnly _).drive) (stops_of_outer (allocate_outer _))
  onSupply _ _ h := h
  onTimers _ _ h := h
  onQueueJog _ _ h :=
    h.congr (congrArg _ (queueEntry_flowOnly _ _ _ _ _ _).drive) (stops_of_outer (queueEntry_outer _ _ _ _ _ _))
  onStation _ _ h := h
  onMarkEntries _ _ h := h
  onJoinFifo f h := h.congr (by simp only [joinFifo]; split <;> rfl) (by simp only [joinFifo]; split <;> rfl)
  onPlaced _ _ _ _ h := h
  onRecounted _ _ h := h
  onLifted _ h := h
  onJunction _ _ h := h
  onJunctionKept _ _ h := h
  onAnalog _ h := h
  onStops hx := .mono hx fun _ _ => .inl rfl
  onChannelLine ha _ := .mono (fun _ h => h) fun g e => by
    rw [State.channel_setChannel_eq]
    split
    · rename_i hge
      obtain ⟨rfl, rfl⟩ := hge
      exact .inl ha
    · exact .inl rfl
  onAckValves h := .mono (fun _ h => h) fun g e => by
    change (State.channel (State.updChannels _ h _) g e).applied = _ ∨ _
    rw [State.channel_updChannels_eq]
    split <;> exact .inl rfl

/-- A trip brings the channels of its hatch to rest (R126). -/
theorem trippedAtRest_takeTrip {E : Set Hatch} {s : State} (h : Hatch) (hs : TrippedAtRestBut E s) :
    TrippedAtRestBut (E \ {h}) (takeTrip s h) := by
  have k := trippedAtRest_commandsKeep (E \ {h})
  refine k.onTripHatch (S := ∅) h (k.onJogEndOn (S := ∅) h ?_)
  intro g hg c htrip
  rw [channel_cutHatch]
  split
  · rfl
  · rename_i hne
    exact hs g (fun hE => hg ⟨hE, fun he => hne he.symm⟩) c htrip

theorem trippedAtRest_tripAll {s : State} (hs : List Hatch) :
    TrippedAtRestBut {h | h ∉ hs} (hs.foldr (fun h s => takeTrip s h) s) := by
  induction hs with
  | nil => exact fun h hE => absurd (List.not_mem_nil) hE
  | cons h hs ih =>
    have := trippedAtRest_takeTrip h ih
    intro g hg
    refine this g fun hE => hg ?_
    simp only [Set.mem_sdiff, Set.mem_ofPred_eq, Set.mem_singleton_iff] at hE
    simp [hE]

theorem trippedAtRest_estopTrip (s : State) : TrippedAtRestBut ∅ (estopTrip s) := by
  have k := trippedAtRest_commandsKeep ∅
  have trips : ∀ u, TrippedAtRestBut ∅ (allHatches.foldr (fun h s => takeTrip s h) u) := by
    intro u h _
    exact trippedAtRest_tripAll allHatches h fun hE => hE (List.mem_finRange h)
  simp only [estopTrip]
  split
  · exact trips _
  · exact k.onPumpsChanged (S := ∅) (trips _)

theorem trippedAtRest_loopTrips {s : State} (n : Fin 10) (hs : TrippedAtRestBut ∅ s) : TrippedAtRestBut ∅ (loopTrips n s) := by
  have k := trippedAtRest_commandsKeep ∅
  have hl : TrippedAtRestBut ∅ (setLoop s n true) := k.onSetLoop (S := ∅) n true hs
  simp only [loopTrips]
  split
  · split
    · exact hl
    · exact trippedAtRest_estopTrip _
  · rename_i h _
    split
    · exact hl
    · have latched : TrippedAtRestBut {h} ({ setLoop s n true with stops := { (setLoop s n true).stops with
          clearing := (setLoop s n true).stops.clearing.set h 0
          latch := (setLoop s n true).stops.latch.set h true } } : State) := by
        intro g hg c htrip
        refine hl g (Set.notMem_empty g) c ?_
        have hne : h ≠ g := fun he => hg he.symm
        simpa [State.tripped, hne] using htrip
      have := trippedAtRest_takeTrip h latched
      rwa [sdiff_self] at this

/-- A held channel stands at 0 after its update (R115). -/
theorem trippedAtRest_updateChannel {s : State} (h : Hatch) (c : Channel) (hs : TrippedAtRestBut ∅ s) :
    TrippedAtRestBut ∅ (updateChannel h c s) := by
  refine (trippedAtRest_commandsKeep ∅).onUpdateFound (S := ∅) h c ?_
  refine TrippedAtRestBut.mono (s := s.setChannel h c (updatedChannel s h c)) (fun g hg => ?_) (fun g e => ?_) ?_
  · simpa [State.tripped] using hg
  · rcases coilFound_keptOrOff (s.setChannel h c (updatedChannel s h c)) h c (s.channel h c) g e with hk | ho
    · exact .inl hk.1
    · exact .inr ho.1
  · intro g hg e htrip
    have htrip : s.tripped g = true := htrip
    rw [State.channel_setChannel_eq]
    split
    · rename_i hge
      obtain ⟨rfl, rfl⟩ := hge
      simp [updatedChannel, ChannelRec.checked, ChannelRec.stepped, channelHeld, htrip]
    · exact hs g hg e htrip

theorem trippedAtRest_stepKeeps : StepKeeps fun _ => TrippedAtRestBut ∅ where
  toCommandsKeep := trippedAtRest_commandsKeep ∅
  onHoldReset {s} _ _ _ := fun h _ c _ => by
    change ((blank s).channel h c).applied = 0
    rw [channel_blank]; rfl
  onStarted {s} _ := fun h _ c _ => by
    change ((blank s).channel h c).applied = 0
    rw [channel_blank]; rfl
  onUpdateChannel h c _ := trippedAtRest_updateChannel h c
  onLoopTrips n _ := trippedAtRest_loopTrips n
  onTick := tick_keeps (.mono (fun _ h => h) fun h c => .inl (by rw [channel_tickDrive])) (fun h => h) fun _ _ h => h
  onQueue _ h := h

end Sys2Proof.Machine

namespace Sys2Proof.Valves
open Sys2Proof Sys2Proof.Machine Sys2Proof.Safety

/-- Settles O38: of all changes only the movement of a drive update gives a channel a direction. -/
theorem directionsNeverSwap : Obligations.DirectionsNeverSwap := by
  intro s t he
  suffices DirectionsFrom s t from this
  simp only [step] at he
  split at he
  · obtain rfl := Host.Outcome.next.inj he
    exact directionsFrom_tick s
  · have := directionsFrom_exec he
    exact this

/-- Settles O44: a trip cuts its hatch in the same event, and an update of a held channel leaves it at 0. -/
theorem stepKeepsTrippedAtRest : Obligations.StepKeepsTrippedAtRest :=
  fun _ _ hs he => trippedAtRestBut_empty.mp (trippedAtRest_stepKeeps.onStep (trippedAtRestBut_empty.mpr hs) he)

end Sys2Proof.Valves
end

section
/-!
The securing verdicts over every step (R16 to R18).
-/

namespace Sys2Proof.Machine
open Sys2Proof Sys2Proof.Safety

/-! ### What a verdict reads -/

/-- Of one hatch, the two parts agree in all that its securing verdict reads (R16). -/
structure SameJudged (s t : State) (h : Hatch) : Prop where
  state : (t.ctx h).state = (s.ctx h).state
  lost : (t.junctions.get h).state = .lost ↔ (s.junctions.get h).state = .lost
  position (p : Panel) : (t.panel h p).position = (s.panel h p).position
  jack (p : Panel) : (t.panel h p).jack = (s.panel h p).jack
  slots (id : CleatId) : cleatHatch id = h → (t.slot id).map CleatRec.steady = (s.slot id).map CleatRec.steady
  band : t.params.band = s.params.band
  allowance : t.params.allowance h = s.params.allowance h

theorem cleatHatch_of_mem {id : CleatId} {h : Hatch} (hm : id ∈ hatchCleats h) : cleatHatch id = h := by
  obtain ⟨p, -, rfl⟩ := List.mem_map.mp hm
  refine Fin.ext ?_
  simp only [cleatHatch, cleatAt]
  omega

theorem mem_hatchCleats (id : CleatId) : id ∈ hatchCleats (cleatHatch id) := by
  refine List.mem_map.mpr ⟨⟨id.val % 32, by omega⟩, List.mem_finRange _, Fin.ext ?_⟩
  simp only [cleatHatch, cleatAt]
  omega

/-- The records of a hatch, less their reclamp fields. -/
def steadyRecords (s : State) (h : Hatch) : List (CleatId × CleatRec) :=
  (hatchRecords s h).map (Prod.map id CleatRec.steady)

theorem steadyRecords_eq (s : State) (h : Hatch) : steadyRecords s h =
    (hatchCleats h).filterMap fun id => ((s.slot id).map CleatRec.steady).map (Prod.mk id) := by
  simp only [steadyRecords, hatchRecords, List.map_filterMap]
  refine List.filterMap_congr fun id _ => ?_
  simp only [State.slot]
  cases s.table.slots.get id <;> rfl

theorem SameJudged.records {s t : State} {h : Hatch} (e : SameJudged s t h) : steadyRecords t h = steadyRecords s h := by
  rw [steadyRecords_eq, steadyRecords_eq]
  exact List.filterMap_congr fun id hid => by rw [e.slots id (cleatHatch_of_mem hid)]

theorem firstFailing_eq (s : State) (h : Hatch) :
    firstFailing s h = ((steadyRecords s h).find? fun r => r.2.counted && !r.2.passes).map (·.1) := by
  rw [firstFailing, steadyRecords, List.find?_map, Option.map_map]
  rfl

theorem retiredCount_eq (s : State) (h : Hatch) :
    retiredCount s h = ((steadyRecords s h).filter fun r => r.2.service = .retired).length := by
  rw [retiredCount, steadyRecords, List.filter_map, List.length_map]
  rfl

theorem judgedUnverified_eq (s : State) (h : Hatch) : judgedUnverified s h =
    (decide ((s.ctx h).state = .unknown) || decide ((s.junctions.get h).state = .lost) ||
      ((s.panel h .port).position.isNone || decide ((s.panel h .port).jack = .unverified) ||
        ((s.panel h .stbd).position.isNone || decide ((s.panel h .stbd).jack = .unverified))) ||
      (steadyRecords s h).any fun r => r.2.counted && r.2.sensor && r.2.verdict = .unverified) := by
  rw [steadyRecords, List.any_map]
  rfl

theorem SameJudged.closedBand {s t : State} {h : Hatch} (e : SameJudged s t h) (p : Panel) :
    inClosedBand t h p = inClosedBand s h p := by
  simp only [inClosedBand, e.position, e.band]

theorem SameJudged.judge {s t : State} {h : Hatch} (e : SameJudged s t h) : judge t h = judge s h := by
  have hu : judgedUnverified t h = judgedUnverified s h := by
    simp only [judgedUnverified_eq, e.records, e.state, e.position, e.jack, e.lost]
  have hp : ∀ p, panelPasses t h p = panelPasses s h p := fun p => by
    simp only [panelPasses, e.jack, e.closedBand]
  have hs : (t.hatches.get h).state = (s.hatches.get h).state := e.state
  simp only [Machine.judge, hu, hp, hs, firstFailing_eq, retiredCount_eq, e.records, e.allowance]

theorem params_of_store {s t : State} (h : t.store = s.store) : t.params = s.params := by
  rw [State.params, State.imageValid, h]
  rfl

/-- What a verdict reads of the outer part, beside the state of the hatch. -/
theorem SameJudged.of_outer {s t : State} {h : Hatch} (ho : t.outer = s.outer) (hs : (t.ctx h).state = (s.ctx h).state) :
    SameJudged s t h where
  state := hs
  lost := by rw [junctions_of_outer ho]
  position p := by simp only [State.panel, junctions_of_outer ho]
  jack p := by simp only [State.panel, junctions_of_outer ho]
  slots id _ := steady_of_outer ho id
  band := by rw [params_of_store (store_of_outer ho)]
  allowance := by rw [params_of_store (store_of_outer ho)]

theorem SameJudged.of_fields {s t : State} {h : Hatch} (ht : t.table.slots = s.table.slots)
    (hh : (t.ctx h).state = (s.ctx h).state) (hj : t.junctions = s.junctions) (hs : t.store = s.store) : SameJudged s t h where
  state := hh
  lost := by rw [hj]
  position p := by simp only [State.panel, hj]
  jack p := by simp only [State.panel, hj]
  slots id _ := by simp only [State.slot, ht]
  band := by rw [params_of_store hs]
  allowance := by rw [params_of_store hs]

/-! ### The verdicts that are current -/

/-- The verdict and reason of each hatch are those that R16 and R17 decide now, but for hatches to be judged yet (R18). -/
def VerdictsBut (S : Set Hatch) (s : State) : Prop :=
  ∀ h ∉ S, s.table.verdict.get h = (judge s h).1 ∧ s.table.reason.get h = (judge s h).2

theorem verdictsBut_empty {s : State} : VerdictsBut ∅ s ↔ VerdictsCurrent s :=
  ⟨fun h g => h g (Set.notMem_empty g), fun h g _ => h g⟩

/-- Verdicts stay current where nothing that they read changes. -/
theorem VerdictsBut.keep {S T : Set Hatch} {s t : State} (hs : VerdictsBut S s) (hT : S ⊆ T)
    (hv : t.table.verdict = s.table.verdict) (hr : t.table.reason = s.table.reason) (he : ∀ h ∉ T, SameJudged s t h) :
    VerdictsBut T t := by
  intro h hh
  rw [hv, hr, (he h hh).judge]
  exact hs h fun hS => hh (hT hS)

theorem VerdictsBut.congr {S : Set Hatch} {s t : State} (ht : t.table = s.table) (hh : t.hatches = s.hatches)
    (hj : t.junctions = s.junctions) (hst : t.store = s.store) (hs : VerdictsBut S s) : VerdictsBut S t :=
  hs.keep subset_rfl (by rw [ht]) (by rw [ht]) fun _ _ =>
    .of_fields (by rw [ht]) (by simp only [State.ctx, hh]) hj hst

theorem VerdictsBut.of_flowOnly {S : Set Hatch} {s t : State} (hf : FlowOnly s t) (hs : VerdictsBut S s) : VerdictsBut S t :=
  hs.congr hf.table hf.hatches hf.junctions hf.store

theorem verdictsBut_judged {S : Set Hatch} {s : State} (h : Hatch) (hs : VerdictsBut S s) :
    VerdictsBut (S \ {h}) (judged s h) := by
  intro g hg
  have hj : judge (judged s h) g = judge s g := (SameJudged.of_fields rfl rfl rfl rfl).judge
  rw [hj]
  by_cases hgh : h = g
  · subst hgh
    simp [judged]
  · have := hs g fun hS => hg ⟨hS, fun e => hgh e.symm⟩
    simpa [judged, hgh] using this

theorem State.ctx_updCtx_eq (s : State) (h g : Hatch) (f : HatchCtx → HatchCtx) :
    (s.updCtx h f).ctx g = if h = g then f (s.ctx g) else s.ctx g := by
  by_cases hg : h = g
  · subst hg; simp
  · simp [hg]

theorem State.slot_setSlot_eq (s : State) (id j : CleatId) (r : Option CleatRec) :
    (s.setSlot id r).slot j = if id = j then r else s.slot j := by
  simp only [State.slot, State.setSlot, Tbl.get_set]

theorem verdictsBut_worksKeep : WorksKeep VerdictsBut where
  mono hST hs := hs.keep hST rfl rfl fun _ _ => .of_fields rfl rfl rfl rfl
  onAgenda _ hs := hs.congr rfl rfl rfl rfl
  onCtx {S s h f} hf hs := hs.keep subset_rfl rfl rfl fun g _ => .of_fields rfl (by
    rw [State.ctx_updCtx_eq]
    split
    · rename_i hg
      subst hg
      exact hf
    · rfl) rfl rfl
  onState {S s h} f hs := hs.keep (Set.subset_insert h S) rfl rfl fun g hg => .of_fields rfl (by
    have hne : h ≠ g := fun he => hg (he ▸ Set.mem_insert h S)
    rw [State.ctx_updCtx_eq, if_neg hne]) rfl rfl
  onJudged := verdictsBut_judged
  onReclampEvent hf _ _ hs := hs.keep subset_rfl rfl rfl fun _ _ => .of_outer (reclampEvent_outer _ hf) rfl
  onSlot hr hf _ hs := hs.keep subset_rfl rfl rfl fun _ _ => .of_outer (setSlot_outer _ (by rw [hr]; simp [hf])) rfl
  onChannel _ hs := hs.congr rfl rfl rfl rfl
  onChannels _ hs := hs.congr rfl rfl rfl rfl
  onJog _ hs := hs.congr rfl rfl rfl rfl
  onAllocate := .of_flowOnly (allocate_flowOnly _)
  onQueueStep _ _ _ := .of_flowOnly (queueEntry_flowOnly _ _ _ _ _ _)
  onTakeLeave _ := .of_flowOnly (takeLeave_flowOnly _ _)
  onTakeReclass _ := .of_flowOnly (takeReclass_flowOnly _ _)
  onLink _ _ hs := hs.congr rfl rfl rfl rfl
  onPopped hs := hs.congr rfl rfl rfl rfl
  onKeys _ _ hs := hs.congr rfl rfl rfl rfl
  onRetain i hs := hs.congr (by rw [retain_eq]) (by rw [retain_eq]) (by rw [retain_eq]) (by rw [retain_eq])
  onRetentionWrite {S s w} _ hs := by
    have hn : nextWrite { s with retention := s.retention.committed w } = { s with retention :=
        (nextWrite { s with retention := s.retention.committed w }).retention } := by
      simp only [nextWrite]
      split <;> rfl
    rw [hn]
    exact hs.congr rfl rfl rfl rfl
  onRecord {S s id x} _ hs := hs.keep (Set.subset_insert _ S) rfl rfl fun g hg =>
    { SameJudged.of_fields (s := s) (t := s) (h := g) rfl rfl rfl rfl with
      slots := fun j hj => by
        rw [State.slot_setSlot_eq, if_neg]
        rintro rfl
        exact hg (hj ▸ Set.mem_insert _ S) }
  onRecords {S s h f} _ hs := hs.keep (Set.subset_insert _ S) rfl rfl fun g hg =>
    { SameJudged.of_fields (s := s) (t := s) (h := g) rfl rfl rfl rfl with
      slots := fun j hj => by
        have hne : cleatHatch j ≠ h := fun he => hg (hj ▸ he ▸ Set.mem_insert _ S)
        simp [State.slot, hne] }
  onTableBuilt _ hs := fun h hh => absurd (Set.mem_univ h) hh
  onStore {S T s st} _ hp hs := hs.keep Set.subset_union_left rfl rfl fun g hg =>
    have hread := hp g fun hT => hg (.inr hT)
    { SameJudged.of_fields (s := s) (t := s) (h := g) rfl rfl rfl rfl with
      band := hread.1
      allowance := hread.2 }
  onPump _ hs := hs.congr rfl rfl rfl rfl
  onAvailable _ hs := .of_flowOnly (allocate_flowOnly _) (hs.congr rfl rfl rfl rfl)
  onSupply _ _ hs := hs.congr rfl rfl rfl rfl
  onTimers _ _ hs := hs.congr rfl rfl rfl rfl
  onQueueJog _ _ := .of_flowOnly (queueEntry_flowOnly _ _ _ _ _ _)
  onStation _ _ hs := hs.congr rfl rfl rfl rfl
  onMarkEntries _ _ hs := hs.congr rfl rfl rfl rfl
  onJoinFifo f hs := by
    simp only [joinFifo]
    split <;> exact hs.congr rfl rfl rfl rfl
  onPlaced _ _ _ _ hs := hs.congr rfl rfl rfl rfl
  onRecounted _ _ hs := hs.congr rfl rfl rfl rfl
  onLifted _ hs := hs.congr rfl rfl rfl rfl
  onJunction {S s} h j hs := hs.keep (Set.subset_insert _ S) rfl rfl fun g hg => by
    have hne : h ≠ g := fun he => hg (he ▸ Set.mem_insert h S)
    have hj : (s.setJunction h j).junctions.get g = s.junctions.get g := by simp [State.setJunction, hne]
    exact { SameJudged.of_fields (s := s) (t := s) (h := g) rfl rfl rfl rfl with
      lost := by rw [hj]
      position := fun p => by simp only [State.panel, hj]
      jack := fun p => by simp only [State.panel, hj] }
  onJunctionKept {S s h j} hlost hpanels hs := hs.keep subset_rfl rfl rfl fun g _ => by
    by_cases hg : h = g
    · subst hg
      have hj : (s.setJunction h j).junctions.get h = j := by simp [State.setJunction]
      exact { SameJudged.of_fields (s := s) (t := s) (h := h) rfl rfl rfl rfl with
        lost := by rw [hj, hlost]
        position := fun p => by rw [State.panel, hj]; exact (hpanels p).1
        jack := fun p => by rw [State.panel, hj]; exact (hpanels p).2 }
    · have hj : (s.setJunction h j).junctions.get g = s.junctions.get g := by simp [State.setJunction, hg]
      exact { SameJudged.of_fields (s := s) (t := s) (h := g) rfl rfl rfl rfl with
        lost := by rw [hj]
        position := fun p => by simp only [State.panel, hj]
        jack := fun p => by simp only [State.panel, hj] }
  onAnalog _ hs := hs.congr rfl rfl rfl rfl
  onStops _ hs := hs.congr rfl rfl rfl rfl
  onChannelLine _ _ hs := hs.congr rfl rfl rfl rfl
  onAckValves _ hs := hs.congr rfl rfl rfl rfl
  onDrive _ hs := hs.congr rfl rfl rfl rfl
  onAnyStops _ hs := hs.congr rfl rfl rfl rfl

/-- After a reset every hatch is UNKNOWN and every verdict UNVERIFIED (R16, R47). -/
theorem verdictsBut_of_blank {S : Set Hatch} {t : State} (hh : t.hatches = State.reset.hatches)
    (ht : t.table = State.reset.table) : VerdictsBut S t := by
  intro h _
  have hj : judge t h = (.unverified, none) := by simp [judge, judgedUnverified, hh, State.reset, HatchCtx.reset]
  rw [hj, ht]
  simp [State.reset]

theorem verdictsBut_tickTenth {S : Set Hatch} {s : State} (hs : VerdictsBut S s) : VerdictsBut S (tickTenth s) :=
  hs.keep subset_rfl rfl rfl fun g _ => .of_fields rfl (by simp [State.ctx, tickTenth]) rfl rfl

theorem verdictsBut_stepKeeps : StepKeeps VerdictsBut where
  toExecKeeps := verdictsBut_worksKeep.execKeeps (fun _ _ _ => verdictsBut_of_blank rfl rfl)
    fun _ => verdictsBut_of_blank rfl rfl
  onTick := tick_keeps (fun h => h.congr rfl rfl rfl rfl) verdictsBut_tickTenth fun _ _ h => h.congr rfl rfl rfl rfl
  onQueue _ h := h.congr rfl rfl rfl rfl

end Sys2Proof.Machine

namespace Sys2Proof.Cleats
open Sys2Proof Sys2Proof.Machine Sys2Proof.Safety

/-- Settles O25: whatever changes what a verdict reads judges the hatch again before the event ends. -/
theorem stepKeepsVerdictsCurrent : Obligations.StepKeepsVerdictsCurrent :=
  fun _ _ hs he => verdictsBut_empty.mp (verdictsBut_stepKeeps.onStep (verdictsBut_empty.mpr hs) he)

end Sys2Proof.Cleats
end

section
/-!
The collections of the Arbiter under joining, leaving and one allocation: they lose no entry, keep their order and stay within the
available flow (R96 to R105).
-/

namespace Sys2Proof.Machine
open Sys2Proof Sys2Proof.Safety

/-! ### The order of the pending list (R98) -/

theorem Entry.before_iff {a b : Entry} : a.before b = true ↔
    clsRank a.cls < clsRank b.cls ∨ (clsRank a.cls = clsRank b.cls ∧ a.arrival < b.arrival) := by
  simp [Entry.before]

theorem Entry.not_before_iff {a b : Entry} : a.before b = false ↔
    ¬ (clsRank a.cls < clsRank b.cls ∨ (clsRank a.cls = clsRank b.cls ∧ a.arrival < b.arrival)) := by
  rw [← Entry.before_iff, Bool.not_eq_true]

/-- No later entry goes before an earlier one. -/
def Ordered (es : List Entry) : Prop := es.Pairwise fun x y => y.before x = false

theorem insertEntry_perm (e : Entry) (es : List Entry) : (insertEntry e es).Perm (e :: es) := by
  induction es with
  | nil => exact .refl _
  | cons x xs ih =>
    simp only [insertEntry]
    split
    · exact .refl _
    · exact (ih.cons x).trans (.swap e x xs)

theorem mem_insertEntry {e x : Entry} {es : List Entry} : x ∈ insertEntry e es ↔ x = e ∨ x ∈ es := by
  rw [(insertEntry_perm e es).mem_iff, List.mem_cons]

theorem ordered_insertEntry {e : Entry} {es : List Entry} (h : Ordered es) : Ordered (insertEntry e es) := by
  induction es with
  | nil => simp [insertEntry, Ordered]
  | cons x xs ih =>
    obtain ⟨hx, hxs⟩ := List.pairwise_cons.mp h
    simp only [insertEntry]
    split
    · rename_i hb
      refine List.pairwise_cons.mpr ⟨fun y hy => ?_, h⟩
      rw [Entry.not_before_iff]
      rw [Entry.before_iff] at hb
      rcases List.mem_cons.mp hy with rfl | hy
      · omega
      · have := Entry.not_before_iff.mp (hx y hy)
        omega
    · rename_i hb
      refine List.pairwise_cons.mpr ⟨fun y hy => ?_, ih hxs⟩
      rcases mem_insertEntry.mp hy with rfl | hy
      · simpa using hb
      · exact hx y hy

/-- Entries that never change sides keep the order. -/
theorem ordered_map {es : List Entry} {f : Entry → Entry} (hf : ∀ a b : Entry, (f a).before (f b) = true → a.before b = true)
    (h : Ordered es) : Ordered (es.map f) := by
  refine List.pairwise_map.mpr (h.imp fun {x y} hxy => ?_)
  cases hb : (f y).before (f x) with
  | false => rfl
  | true => rw [hf y x hb] at hxy; cases hxy

/-! ### The collections -/

/-- An entry less its shed mark. -/
def Entry.cleared (e : Entry) : Entry := { e with shed := false }

/-- The entries of both collections, less their shed marks. -/
def clearedEntries (pending : List Entry) (granted : List Granted) : List Entry :=
  (pending ++ granted.map (·.entry)).map Entry.cleared

/-- The entries of the collections while an allocation runs. -/
def Alloc.entries (a : Alloc) : List Entry := clearedEntries a.pending a.granted

/-- Each hatch has at most one entry. -/
def OnePerHatch (es : List Entry) : Prop := (es.map (·.hatch)).Nodup

theorem oneEntryEach_iff (a : Arbiter) : OneEntryEach a ↔ OnePerHatch (clearedEntries a.pending a.granted) := by
  simp only [OneEntryEach, OnePerHatch, clearedEntries, List.map_map, List.map_append]
  rfl

theorem OnePerHatch.perm {es fs : List Entry} (hp : fs.Perm es) (h : OnePerHatch es) : OnePerHatch fs :=
  (hp.map _).nodup_iff.mpr h

/-- A member is the one of its hatch. -/
theorem perm_of_nodup_hatch {α : Type} {hatch : α → Hatch} {xs : List α} {x : α} (hn : (xs.map hatch).Nodup) (hx : x ∈ xs) :
    xs.Perm (x :: xs.filter fun y => hatch y != hatch x) := by
  induction xs with
  | nil => cases hx
  | cons y ys ih =>
    rw [List.map_cons, List.nodup_cons] at hn
    obtain ⟨hy, hys⟩ := hn
    rcases List.mem_cons.mp hx with rfl | hmem
    · have : ys.filter (fun z => hatch z != hatch x) = ys := by
        refine List.filter_eq_self.mpr fun z hz => ?_
        have : hatch z ≠ hatch x := fun he => hy (he ▸ List.mem_map_of_mem hz)
        simpa using this
      simp [this]
    · have hne : hatch y ≠ hatch x := fun he => hy (he ▸ List.mem_map_of_mem hmem)
      rw [List.filter_cons_of_pos (by simpa using hne)]
      exact ((ih hys hmem).cons y).trans (.swap _ _ _)

theorem OnePerHatch.granted {es : List Entry} {gs : List Granted} (h : OnePerHatch (clearedEntries es gs)) :
    (gs.map (·.entry.hatch)).Nodup := by
  simp only [OnePerHatch, clearedEntries, List.map_map, List.map_append] at h
  exact h.of_append_right

theorem OnePerHatch.pending {es : List Entry} {gs : List Granted} (h : OnePerHatch (clearedEntries es gs)) :
    (es.map (·.hatch)).Nodup := by
  simp only [OnePerHatch, clearedEntries, List.map_map, List.map_append] at h
  exact h.of_append_left

/-- Shedding one grant moves its entry (R101). -/
theorem shedOne_perm {a : Alloc} {g : Granted} (hn : OnePerHatch a.entries) (hg : g ∈ a.granted) :
    (a.shedOne g).entries.Perm a.entries := by
  have hgr := ((perm_of_nodup_hatch hn.granted hg).map (·.entry)).map Entry.cleared
  have hin := (insertEntry_perm { g.entry with shed := true } a.pending).map Entry.cleared
  simp only [Alloc.entries, clearedEntries, Alloc.shedOne, List.map_append]
  refine (hin.append_right _).trans ?_
  rw [List.map_cons, List.cons_append]
  refine List.perm_middle.symm.trans ?_
  exact (hgr.symm).append_left _

/-- Granting the head of the pending list moves its entry (R102). -/
theorem grantOne_pending {a : Alloc} {e : Entry} {es : List Entry} (hn : OnePerHatch a.entries) (he : a.pending = e :: es) :
    (a.grantOne e).pending = es := by
  have hp := hn.pending
  rw [he, List.map_cons, List.nodup_cons] at hp
  simp only [Alloc.grantOne, he]
  rw [List.filter_cons_of_neg (by simp)]
  refine List.filter_eq_self.mpr fun y hy => ?_
  have : y.hatch ≠ e.hatch := fun h => hp.1 (h ▸ List.mem_map_of_mem hy)
  simpa using this

theorem grantOne_perm {a : Alloc} {e : Entry} {es : List Entry} (hn : OnePerHatch a.entries) (he : a.pending = e :: es) :
    (a.grantOne e).entries.Perm a.entries := by
  simp only [Alloc.entries, clearedEntries, grantOne_pending hn he]
  simp only [Alloc.grantOne, he, List.map_append, List.map_cons, List.map_nil, List.cons_append]
  rw [← List.append_assoc]
  exact List.perm_append_singleton _ _

/-! ### What an allocation keeps -/

/-- The collections hold the entries that they held, in order. -/
structure Alloc.Lawful (es : List Entry) (a : Alloc) : Prop where
  perm : a.entries.Perm es
  ordered : Ordered a.pending

theorem Alloc.Lawful.shedOne {es : List Entry} {a : Alloc} {g : Granted} (hn : OnePerHatch es) (l : a.Lawful es)
    (hg : g ∈ a.granted) : (a.shedOne g).Lawful es :=
  ⟨(shedOne_perm (hn.perm l.perm) hg).trans l.perm, ordered_insertEntry l.ordered⟩

theorem Alloc.Lawful.grantOne {es xs : List Entry} {a : Alloc} {e : Entry} (hn : OnePerHatch es) (l : a.Lawful es)
    (he : a.pending = e :: xs) : (a.grantOne e).Lawful es :=
  ⟨(grantOne_perm (hn.perm l.perm) he).trans l.perm, l.ordered.filter _⟩

theorem newestOf_mem {gs : List Granted} {c : Cls} {g : Granted} (h : newestOf gs c = some g) :
    g ∈ gs ∧ g.entry.cls = c := by
  refine ⟨List.mem_reverse.mp (List.mem_of_find?_eq_some h), ?_⟩
  have := List.find?_some h
  simpa using this

theorem victim_mem {gs : List Granted} {g : Granted} (h : victim gs = some g) : g ∈ gs := by
  simp only [victim, Option.or_eq_some_iff] at h
  rcases h with h | ⟨-, h | ⟨-, h⟩⟩
  all_goals exact (newestOf_mem h).1

theorem newestOf_none {gs : List Granted} {c : Cls} (h : newestOf gs c = none) : ∀ g ∈ gs, g.entry.cls ≠ c := by
  intro g hg
  have := List.find?_eq_none.mp h g (List.mem_reverse.mpr hg)
  simpa using this

/-- There is a grant to shed while any stands. -/
theorem victim_none {gs : List Granted} (h : victim gs = none) : gs = [] := by
  simp only [victim, Option.or_eq_none_iff] at h
  obtain ⟨hn, hs, hu⟩ := h
  refine List.eq_nil_iff_forall_not_mem.mpr fun g hg => ?_
  have hn := newestOf_none hn g hg
  have hs := newestOf_none hs g hg
  have hu := newestOf_none hu g hg
  cases hc : g.entry.cls <;> simp_all

theorem Alloc.Lawful.capacityShed {es : List Entry} {avail : Nat} (hn : OnePerHatch es) (k : Nat) {a : Alloc}
    (l : a.Lawful es) : (capacityShed avail k a).Lawful es := by
  induction k generalizing a with
  | zero => exact l
  | succ k ih =>
    simp only [Machine.capacityShed]
    split
    · exact l
    · split
      · exact l
      · rename_i g hg
        exact ih (l.shedOne hn (victim_mem hg))

theorem Alloc.Lawful.preempt {es : List Entry} {avail : Nat} {e : Entry} (hn : OnePerHatch es) (k : Nat) {a : Alloc}
    (l : a.Lawful es) : (preempt avail e k a).Lawful es := by
  induction k generalizing a with
  | zero => exact l
  | succ k ih =>
    simp only [Machine.preempt]
    split
    · exact l
    · split
      · exact l
      · rename_i g hg
        exact ih (l.shedOne hn (newestOf_mem hg).1)

/-! ### Capacity shedding ends within the available flow (R101) -/

theorem sumM_filter_le (gs : List Granted) (p : Granted → Bool) : sumM (gs.filter p) ≤ sumM gs := by
  induction gs with
  | nil => exact le_rfl
  | cons g gs ih =>
    simp only [sumM, List.map_cons, List.sum_cons, List.filter_cons] at ih ⊢
    split
    · simpa using ih
    · omega

theorem sumM_capacityShed {avail k : Nat} {a : Alloc} (hk : a.granted.length ≤ k) :
    sumM (capacityShed avail k a).granted ≤ avail := by
  induction k generalizing a with
  | zero =>
    have : a.granted = [] := List.eq_nil_of_length_eq_zero (by omega)
    simp [capacityShed, this, sumM]
  | succ k ih =>
    simp only [capacityShed]
    split
    · assumption
    · split
      · rename_i hv
        simp [victim_none hv, sumM]
      · rename_i g hg
        refine ih ?_
        have hlt : (a.granted.filter fun x => x.entry.hatch != g.entry.hatch).length < a.granted.length :=
          List.length_filter_lt_length_iff_exists.mpr ⟨g, victim_mem hg, by simp⟩
        simp only [Alloc.shedOne]
        omega

theorem sumM_preempt {avail : Nat} {e : Entry} (k : Nat) (a : Alloc) :
    sumM (preempt avail e k a).granted ≤ sumM a.granted := by
  induction k generalizing a with
  | zero => exact le_rfl
  | succ k ih =>
    simp only [preempt]
    split
    · exact le_rfl
    · split
      · exact le_rfl
      · exact (ih _).trans (sumM_filter_le _ _)

theorem sumM_grantOne (a : Alloc) (e : Entry) : sumM (a.grantOne e).granted = sumM a.granted + e.m := by
  simp [sumM, Alloc.grantOne]

/-! ### The shares (R105) -/

/-- The floors of shares of a whole do not exceed the whole. -/
theorem sum_floor_le (u ex : Nat) (ds : List Nat) : (ds.map fun d => u * d / ex).sum ≤ u * ds.sum / ex := by
  induction ds with
  | nil => exact Nat.zero_le _
  | cons d ds ih =>
    simp only [List.map_cons, List.sum_cons, Nat.mul_add]
    exact (Nat.add_le_add_left ih _).trans Nat.div_add_div_le_add_div

theorem shareOf_bounds {avail : Nat} {gs : List Granted} {e : Entry} (hmn : e.m ≤ e.n) :
    e.m ≤ shareOf avail gs e ∧ shareOf avail gs e ≤ e.n := by
  simp only [shareOf]
  split
  · exact ⟨le_rfl, hmn⟩
  · split
    · exact ⟨hmn, le_rfl⟩
    · rename_i hex hu
      have hfloor : (avail - sumM gs) * (e.n - e.m) / sumE gs ≤ e.n - e.m := by
        refine Nat.div_le_of_le_mul ?_
        exact Nat.mul_le_mul_right _ (by omega)
      refine ⟨Nat.le_add_right _ _, ?_⟩
      calc e.m + (avail - sumM gs) * (e.n - e.m) / sumE gs ≤ e.m + (e.n - e.m) := Nat.add_le_add_left hfloor _
        _ = e.n := Nat.add_sub_cancel' hmn

/-- The shares together stay within the available flow. -/
theorem sum_shares_le {avail : Nat} {gs : List Granted} (hfit : sumM gs ≤ avail) (hmn : ∀ g ∈ gs, g.entry.m ≤ g.entry.n) :
    (gs.map fun g => shareOf avail gs g.entry).sum ≤ avail := by
  simp only [shareOf]
  split
  · exact hfit
  · split
    · rename_i hex hu
      have hn : (gs.map fun g => g.entry.n) = gs.map fun g => g.entry.m + (g.entry.n - g.entry.m) :=
        List.map_congr_left fun g hg => (Nat.add_sub_cancel' (hmn g hg)).symm
      rw [hn, List.sum_map_add]
      simp only [sumM, sumE] at hfit hu ⊢
      omega
    · rename_i hex hu
      rw [List.sum_map_add]
      have hfloor := sum_floor_le (avail - sumM gs) (sumE gs) (gs.map fun g => g.entry.n - g.entry.m)
      rw [List.map_map] at hfloor
      have hwhole : (avail - sumM gs) * sumE gs / sumE gs = avail - sumM gs :=
        Nat.mul_div_cancel _ (Nat.pos_of_ne_zero hex)
      have := hfloor.trans_eq hwhole
      simp only [sumM] at hfit this ⊢
      have hsum : (gs.map fun g => (avail - (gs.map (·.entry.m)).sum) * (g.entry.n - g.entry.m) / sumE gs).sum ≤
          avail - (gs.map (·.entry.m)).sum := this
      omega

end Sys2Proof.Machine
end

section
/-!
The grant scan of one allocation (R102, R103): where it stops, the head does not fit or has been shed by the same allocation; and
what an allocation as a whole gives.
-/

namespace Sys2Proof.Machine
open Sys2Proof Sys2Proof.Safety

/-! ### What the scan keeps -/

/-- A granted entry whose hatch held a grant before the allocation. -/
def HeldBefore (old : List Granted) (h : Hatch) : Prop := ∃ o ∈ old, o.entry.hatch = h

/-- The collections of an allocation that began with the granted set `old`: what has been shed held a grant before and carries the
shed mark. -/
structure Alloc.Sheds (es : List Entry) (old : List Granted) (a : Alloc) : Prop extends a.Lawful es where
  before : ∀ h ∈ a.shedNow, HeldBefore old h
  marked : ∀ e ∈ a.pending, e.hatch ∈ a.shedNow → e.shed = true

/-- Each grant that is no URGENT one stood before the allocation. -/
def Alloc.OldGrants (old : List Granted) (a : Alloc) : Prop :=
  ∀ g ∈ a.granted, g.entry.cls = .urgent ∨ HeldBefore old g.entry.hatch

/-- The entries that may still be granted by this scan. -/
def Alloc.free (a : Alloc) : Nat := (a.pending.filter fun e => !a.shedNow.contains e.hatch).length

theorem pending_ne_granted {a : Alloc} (hn : OnePerHatch a.entries) {e : Entry} {g : Granted} (he : e ∈ a.pending)
    (hg : g ∈ a.granted) : e.hatch ≠ g.entry.hatch := by
  simp only [OnePerHatch, Alloc.entries, clearedEntries, List.map_map, List.map_append] at hn
  intro h
  refine (List.disjoint_of_nodup_append hn) (List.mem_map_of_mem he) ?_
  have := List.mem_map_of_mem (f := Entry.hatch ∘ Entry.cleared ∘ fun x : Granted => x.entry) hg
  have hh : (Entry.hatch ∘ Entry.cleared) e = (Entry.hatch ∘ Entry.cleared ∘ fun x : Granted => x.entry) g := h
  rwa [hh]

theorem Alloc.Sheds.shedOne {es : List Entry} {old : List Granted} {a : Alloc} {g : Granted} (hn : OnePerHatch es)
    (l : a.Sheds es old) (hg : g ∈ a.granted) (ho : HeldBefore old g.entry.hatch) : (a.shedOne g).Sheds es old where
  toLawful := l.toLawful.shedOne hn hg
  before h hh := by
    rcases List.mem_append.mp hh with hh | hh
    · exact l.before h hh
    · rw [List.mem_singleton.mp hh]
      exact ho
  marked e he hh := by
    rcases mem_insertEntry.mp he with rfl | he
    · rfl
    · rcases List.mem_append.mp hh with hh | hh
      · exact l.marked e he hh
      · exact absurd (List.mem_singleton.mp hh) (pending_ne_granted (hn.perm l.perm) he hg)

theorem Alloc.Sheds.grantOne {es xs : List Entry} {old : List Granted} {a : Alloc} {e : Entry} (hn : OnePerHatch es)
    (l : a.Sheds es old) (he : a.pending = e :: xs) : (a.grantOne e).Sheds es old where
  toLawful := l.toLawful.grantOne hn he
  before := l.before
  marked x hx hh := l.marked x (List.mem_of_mem_filter hx) hh

/-- Capacity shedding takes from the grants that stood before (R101). -/
theorem sheds_capacityShed {es : List Entry} {old : List Granted} {avail : Nat} (hn : OnePerHatch es) (k : Nat) {a : Alloc}
    (l : a.Sheds es old) (ho : ∀ g ∈ a.granted, HeldBefore old g.entry.hatch) :
    (capacityShed avail k a).Sheds es old ∧ ∀ g ∈ (capacityShed avail k a).granted, HeldBefore old g.entry.hatch := by
  induction k generalizing a with
  | zero => exact ⟨l, ho⟩
  | succ k ih =>
    simp only [capacityShed]
    split
    · exact ⟨l, ho⟩
    · split
      · exact ⟨l, ho⟩
      · rename_i g hg
        exact ih (l.shedOne hn (victim_mem hg) (ho g (victim_mem hg))) fun x hx => ho x (List.mem_of_mem_filter hx)

/-! ### URGENT pre-emption (R103) -/

/-- The collections while an URGENT head pre-empts: the head keeps its place and has not been shed. -/
structure Alloc.Preempts (es : List Entry) (old : List Granted) (e : Entry) (n : Nat) (a : Alloc) : Prop
    extends a.Sheds es old where
  head : a.pending.head? = some e
  unshed : e.hatch ∉ a.shedNow
  oldGrants : a.OldGrants old
  free : a.free ≤ n

theorem free_shedOne_le (a : Alloc) (g : Granted) : (a.shedOne g).free ≤ a.free := by
  have hperm : ((a.shedOne g).pending.filter fun e => !(a.shedOne g).shedNow.contains e.hatch).Perm
      (({ g.entry with shed := true } :: a.pending).filter fun e => !(a.shedOne g).shedNow.contains e.hatch) :=
    (insertEntry_perm _ _).filter _
  rw [Alloc.free, hperm.length_eq, List.filter_cons_of_neg (by simp [Alloc.shedOne])]
  simp only [Alloc.free, ← List.countP_eq_length_filter]
  refine List.countP_mono_left fun x _ hx => ?_
  simp only [Alloc.shedOne, List.contains_append, Bool.not_or, Bool.and_eq_true] at hx
  exact hx.1

theorem Alloc.Preempts.shedOne {es : List Entry} {old : List Granted} {e : Entry} {n : Nat} {a : Alloc} {g : Granted}
    (hn : OnePerHatch es) (hu : e.cls = .urgent) (l : a.Preempts es old e n) (hg : g ∈ a.granted)
    (hnormal : g.entry.cls = .normal) : (a.shedOne g).Preempts es old e n := by
  obtain ⟨xs, hxs⟩ : ∃ xs, a.pending = e :: xs := List.head?_eq_some_iff.mp l.head
  have ho : HeldBefore old g.entry.hatch := by
    rcases l.oldGrants g hg with h | h
    · rw [hnormal] at h; cases h
    · exact h
  have hlater : Entry.before { g.entry with shed := true } e = false := by
    rw [Entry.not_before_iff]
    simp [hu, hnormal, clsRank]
  refine ⟨l.toSheds.shedOne hn hg ho, ?_, ?_, ?_, (free_shedOne_le a g).trans l.free⟩
  · simp [Alloc.shedOne, hxs, insertEntry, hlater]
  · simp only [Alloc.shedOne, List.mem_append, List.mem_singleton, not_or]
    exact ⟨l.unshed, pending_ne_granted (hn.perm l.perm) (hxs ▸ List.mem_cons_self) hg⟩
  · exact fun x hx => l.oldGrants x (List.mem_of_mem_filter hx)

theorem preempts_preempt {es : List Entry} {old : List Granted} {e : Entry} {n avail : Nat} (hn : OnePerHatch es)
    (hu : e.cls = .urgent) (k : Nat) {a : Alloc} (l : a.Preempts es old e n) :
    (preempt avail e k a).Preempts es old e n := by
  induction k generalizing a with
  | zero => exact l
  | succ k ih =>
    simp only [preempt]
    split
    · exact l
    · split
      · exact l
      · rename_i g hg
        obtain ⟨hmem, hnormal⟩ := newestOf_mem hg
        exact ih (l.shedOne hn hu hmem hnormal)

/-! ### The scan -/

/-- The collections between two grants of the scan: once an entry that is not URGENT has been granted no URGENT one waits. -/
structure Alloc.Scans (es : List Entry) (old : List Granted) (avail : Nat) (a : Alloc) : Prop extends a.Sheds es old where
  fit : sumM a.granted ≤ avail
  turn : a.OldGrants old ∨ ∀ e ∈ a.pending, e.cls ≠ .urgent

/-- The head of what still waits does not fit, or has been shed by this allocation. -/
def Alloc.Stops (avail : Nat) (a : Alloc) : Prop :=
  ∀ e, a.pending.head? = some e → avail < sumM a.granted + e.m ∨ e.hatch ∈ a.shedNow

theorem fits_iff {a : Alloc} {avail : Nat} {e : Entry} : a.fits avail e = true ↔ sumM a.granted + e.m ≤ avail := by
  simp [Alloc.fits]

/-- No URGENT entry stands behind a head that is not URGENT (R98). -/
theorem not_urgent_of_ordered {e : Entry} {es : List Entry} (h : Ordered (e :: es)) (he : e.cls ≠ .urgent) :
    ∀ x ∈ es, x.cls ≠ .urgent := by
  intro x hx hu
  have := Entry.not_before_iff.mp ((List.pairwise_cons.mp h).1 x hx)
  rw [hu] at this
  cases hc : e.cls <;> simp_all [clsRank]

theorem Alloc.Scans.grantOne {es xs : List Entry} {old : List Granted} {avail : Nat} {a : Alloc} {e : Entry}
    (hn : OnePerHatch es) (l : a.Scans es old avail) (he : a.pending = e :: xs) (hf : a.fits avail e = true) :
    (a.grantOne e).Scans es old avail := by
  refine ⟨l.toSheds.grantOne hn he, by rw [sumM_grantOne]; exact fits_iff.mp hf, ?_⟩
  rw [grantOne_pending (hn.perm l.perm) he]
  by_cases hu : e.cls = .urgent
  · refine l.turn.imp (fun ho g hg => ?_) fun hp x hx => hp x (he ▸ List.mem_cons_of_mem _ hx)
    rcases List.mem_append.mp hg with hg | hg
    · exact ho g hg
    · rw [List.mem_singleton.mp hg]
      exact .inl hu
  · exact .inr (not_urgent_of_ordered (he ▸ l.ordered) hu)

theorem free_grantOne {es xs : List Entry} {a : Alloc} {e : Entry} (hn : OnePerHatch es) (l : a.Lawful es)
    (he : a.pending = e :: xs) (hs : e.hatch ∉ a.shedNow) : (a.grantOne e).free + 1 = a.free := by
  rw [Alloc.free, grantOne_pending (hn.perm l.perm) he, Alloc.free, he, List.filter_cons_of_pos (by simpa using hs)]
  rfl

/-- The grant scan stops where R102 and R103 have it stop: each turn grants one entry or ends, so its bound is never reached. -/
theorem scans_grantScan {es : List Entry} {old : List Granted} {avail : Nat} (hn : OnePerHatch es) (k : Nat) {a : Alloc}
    (l : a.Scans es old avail) (hk : a.free ≤ k) :
    (grantScan avail k a).1.Scans es old avail ∧ (grantScan avail k a).1.Stops avail := by
  induction k generalizing a with
  | zero =>
    refine ⟨l, fun e he => .inr ?_⟩
    by_contra hs
    obtain ⟨xs, hxs⟩ := List.head?_eq_some_iff.mp he
    have := free_grantOne hn l.toLawful hxs hs
    omega
  | succ k ih =>
    simp only [grantScan]
    split
    · rename_i hp
      exact ⟨l, fun e he => by simp [hp] at he⟩
    · rename_i e xs he
      have head : ∀ x, a.pending.head? = some x → x = e := fun x hx => by simpa [he, eq_comm] using hx
      split
      · rename_i hs
        exact ⟨l, fun x hx => .inr (by rw [head x hx]; simpa using hs)⟩
      · rename_i hs
        have hs : e.hatch ∉ a.shedNow := by simpa using hs
        split
        · rename_i hf
          have := free_grantOne hn l.toLawful he hs
          exact ih (l.grantOne hn he hf) (by omega)
        · rename_i hf
          split
          · rename_i hu
            have ho : a.OldGrants old :=
              l.turn.resolve_right fun h => h e (he ▸ List.mem_cons_self) hu
            have p : (preempt avail e a.granted.length a).Preempts es old e a.free :=
              preempts_preempt hn hu _ ⟨l.toSheds, by simp [he], hs, ho, le_rfl⟩
            have hb : (preempt avail e a.granted.length a).Scans es old avail :=
              ⟨p.toSheds, (sumM_preempt _ _).trans l.fit, .inl p.oldGrants⟩
            split
            · rename_i hfb
              obtain ⟨ys, hys⟩ := List.head?_eq_some_iff.mp p.head
              have := free_grantOne hn p.toLawful hys p.unshed
              have := p.free
              exact ih (hb.grantOne hn hys hfb) (by omega)
            · rename_i hfb
              refine ⟨hb, fun x hx => .inl ?_⟩
              obtain rfl : e = x := by rw [p.head] at hx; exact Option.some.inj hx
              exact Nat.lt_of_not_le fun hle => hfb (fits_iff.mpr hle)
          · refine ⟨l, fun x hx => .inl ?_⟩
            rw [head x hx]
            exact Nat.lt_of_not_le fun hle => hf (fits_iff.mpr hle)

/-! ### One allocation (R100) -/

/-- The collections after the shedding and the scan of an allocation. -/
def scanned (s : State) : Alloc :=
  let a := capacityShed s.supply.available s.arbiter.granted.length ⟨s.arbiter.pending, s.arbiter.granted, []⟩
  (grantScan s.supply.available (a.pending.length + a.granted.length) a).1

theorem allocate_pending (s : State) : (allocate s).arbiter.pending = (scanned s).pending := by
  simp only [allocate]
  split <;> rfl

theorem allocate_granted (s : State) :
    (allocate s).arbiter.granted = withShares s.supply.available (scanned s).granted := by
  simp only [allocate]
  split <;> rfl

@[simp] theorem allocate_available (s : State) : (allocate s).supply.available = s.supply.available := by
  simp only [allocate]
  split <;> rfl

theorem withShares_entry (avail : Nat) (gs : List Granted) : (withShares avail gs).map (·.entry) = gs.map (·.entry) := by
  simp [withShares]

theorem clearedEntries_allocate (s : State) :
    clearedEntries (allocate s).arbiter.pending (allocate s).arbiter.granted = (scanned s).entries := by
  rw [allocate_pending, allocate_granted, Alloc.entries, clearedEntries, clearedEntries, withShares_entry]

theorem sumM_withShares (avail : Nat) (gs : List Granted) : sumM (withShares avail gs) = sumM gs := by
  simp only [sumM, withShares, List.map_map]
  rfl

theorem scans_scanned {s : State} (hn : OneEntryEach s.arbiter) (ho : InGrantOrder s.arbiter) :
    (scanned s).Scans (clearedEntries s.arbiter.pending s.arbiter.granted) s.arbiter.granted s.supply.available ∧
      (scanned s).Stops s.supply.available := by
  have hn := (oneEntryEach_iff _).mp hn
  have start : Alloc.Sheds (clearedEntries s.arbiter.pending s.arbiter.granted) s.arbiter.granted
      ⟨s.arbiter.pending, s.arbiter.granted, []⟩ :=
    ⟨⟨.refl _, ho⟩, fun h hh => absurd hh List.not_mem_nil, fun e _ hh => absurd hh List.not_mem_nil⟩
  obtain ⟨shed, hold⟩ := sheds_capacityShed (avail := s.supply.available) hn s.arbiter.granted.length start
    fun g hg => ⟨g, hg, rfl⟩
  exact scans_grantScan hn _ ⟨shed, sumM_capacityShed le_rfl, .inl fun g hg => .inr (hold g hg)⟩
    ((List.length_filter_le _ _).trans (Nat.le_add_right _ _))

end Sys2Proof.Machine
end

section
/-!
The laws of the Arbiter and of the pump sets over every step (R84, R96, R98, R102, R105, R178).
-/

namespace Sys2Proof.Machine
open Sys2Proof Sys2Proof.Safety

/-! ### The collections -/

/-- The laws of the two collections (R96, R98), with no entry whose M is above its N (R178). -/
structure EntriesLawful (pending : List Entry) (granted : List Granted) : Prop where
  one : OnePerHatch (clearedEntries pending granted)
  ordered : Ordered pending
  bounds : ∀ e ∈ clearedEntries pending granted, e.m ≤ e.n

/-- The image gives no step an M above its N (R178). -/
def Image.StepsSound (p : Image) : Prop := ∀ t, p.stepM t ≤ p.stepN t

theorem flowLawful_iff {s : State} :
    FlowLawful s ↔ EntriesLawful s.arbiter.pending s.arbiter.granted ∧ Image.StepsSound s.store.copy := by
  have hb : (∀ e ∈ s.arbiter.pending ++ s.arbiter.granted.map (·.entry), e.m ≤ e.n) ↔
      ∀ e ∈ clearedEntries s.arbiter.pending s.arbiter.granted, e.m ≤ e.n := by
    rw [clearedEntries, List.forall_mem_map]
    rfl
  rw [FlowLawful, oneEntryEach_iff, hb]
  exact ⟨fun ⟨h1, h2, h3, h4⟩ => ⟨⟨h1, h2, h3⟩, h4⟩, fun ⟨⟨h1, h2, h3⟩, h4⟩ => ⟨h1, h2, h3, h4⟩⟩

theorem stepsSound_of_sound {p : Image} (h : p.sound = true) : Image.StepsSound p := by
  intro t
  simp only [Image.sound, Bool.and_eq_true, List.all_eq_true, decide_eq_true_eq] at h
  have := h.1.1.1.1.1 (p.step.get t.idx) (List.getElem_mem (by rw [p.step.len]; exact t.idx.isLt))
  simp only [Image.stepM, Image.stepN]
  omega

theorem stepsSound_params {s : State} (h : Image.StepsSound s.store.copy) : Image.StepsSound s.params := by
  simp only [State.params]
  split
  · exact h
  · exact stepsSound_of_sound CommandsKeep.default_sound

/-- Entries keep the laws where each keeps its hatch, its M and its N, and none changes sides. -/
theorem EntriesLawful.map {ps : List Entry} {gs : List Granted} {f : Entry → Entry} (hh : ∀ e, (f e).hatch = e.hatch)
    (hm : ∀ e, (f e).m = e.m ∧ (f e).n = e.n) (hf : ∀ a b : Entry, (f a).before (f b) = true → a.before b = true)
    (l : EntriesLawful ps gs) : EntriesLawful (ps.map f) (gs.map fun g => { g with entry := f g.entry }) := by
  have hc : clearedEntries (ps.map f) (gs.map fun g => { g with entry := f g.entry }) =
      (ps ++ gs.map (·.entry)).map fun e => (f e).cleared := by
    simp [clearedEntries, Function.comp_def]
  have hhatch : (clearedEntries (ps.map f) (gs.map fun g => { g with entry := f g.entry })).map (·.hatch) =
      (clearedEntries ps gs).map (·.hatch) := by
    rw [hc, clearedEntries, List.map_map, List.map_map]
    exact List.map_congr_left fun e _ => hh e
  refine ⟨by simpa only [OnePerHatch, hhatch] using l.one, ordered_map hf l.ordered, ?_⟩
  rw [hc]
  intro x hx
  obtain ⟨e, he, rfl⟩ := List.mem_map.mp hx
  have := l.bounds e.cleared (List.mem_map_of_mem he)
  simp only [Entry.cleared, hm] at this ⊢
  exact this

theorem EntriesLawful.sublists {ps qs : List Entry} {gs ks : List Granted} (hp : qs.Sublist ps) (hg : ks.Sublist gs)
    (l : EntriesLawful ps gs) : EntriesLawful qs ks := by
  have hs : (clearedEntries qs ks).Sublist (clearedEntries ps gs) := (hp.append (hg.map _)).map _
  exact ⟨l.one.sublist (hs.map _), l.ordered.sublist hp, fun e he => l.bounds e (hs.subset he)⟩

/-- An entry of a hatch that has none joins at its place (R96, R98). -/
theorem EntriesLawful.insert {ps : List Entry} {gs : List Granted} {e : Entry} (hm : e.m ≤ e.n)
    (he : ∀ x ∈ clearedEntries ps gs, x.hatch ≠ e.hatch) (l : EntriesLawful ps gs) : EntriesLawful (insertEntry e ps) gs := by
  have hp : (clearedEntries (insertEntry e ps) gs).Perm (e.cleared :: clearedEntries ps gs) :=
    ((insertEntry_perm e ps).append_right _).map _
  refine ⟨?_, ordered_insertEntry l.ordered, fun x hx => ?_⟩
  · refine OnePerHatch.perm hp (List.nodup_cons.mpr ⟨fun hmem => ?_, l.one⟩)
    obtain ⟨x, hx, hxe⟩ := List.mem_map.mp hmem
    exact he x hx hxe
  · rcases List.mem_cons.mp (hp.mem_iff.mp hx) with rfl | hx
    · exact hm
    · exact l.bounds x hx

/-- The renumbering keeps the order of the arrival sequences (R97). -/
theorem EntriesLawful.renumber {a : Arbiter} (l : EntriesLawful a.pending a.granted) :
    EntriesLawful a.renumber.pending a.renumber.granted := by
  refine l.map (fun _ => rfl) (fun _ => ⟨rfl, rfl⟩) fun x y h => ?_
  rw [Entry.before_iff] at h ⊢
  simp only at h
  refine h.imp_right fun ⟨hc, hlt⟩ => ⟨hc, ?_⟩
  by_contra hle
  refine absurd hlt (Nat.not_lt.mpr ?_)
  simp only [← List.countP_eq_length_filter]
  refine List.countP_mono_left fun k _ hk => ?_
  simp only [decide_eq_true_eq] at hk ⊢
  omega

theorem clearedEntries_has {a : Arbiter} {h : Hatch} (hh : a.has h = false) :
    ∀ x ∈ clearedEntries a.pending a.granted, x.hatch ≠ h := by
  simp only [Arbiter.has, Bool.or_eq_false_iff, List.any_eq_false, decide_eq_true_eq] at hh
  intro x hx
  obtain ⟨e, he, rfl⟩ := List.mem_map.mp hx
  rcases List.mem_append.mp he with he | he
  · exact hh.1 e he
  · obtain ⟨g, hg, rfl⟩ := List.mem_map.mp he
    exact hh.2 g hg

theorem has_renumber (a : Arbiter) (h : Hatch) : a.renumber.has h = a.has h := by
  simp [Arbiter.has, Arbiter.renumber, Function.comp_def]

/-- A class change moves the entry to its place (R99). -/
theorem EntriesLawful.changeClass {a : Arbiter} (h : Hatch) (c : Cls) (l : EntriesLawful a.pending a.granted) :
    EntriesLawful (a.changeClass h c).pending (a.changeClass h c).granted := by
  have hgranted : (a.changeClass h c).granted.map (fun g => (g.entry.hatch, g.entry.m, g.entry.n)) =
      a.granted.map fun g => (g.entry.hatch, g.entry.m, g.entry.n) := by
    simp only [Arbiter.changeClass, List.map_map]
    refine List.map_congr_left fun g _ => ?_
    simp only [Function.comp_apply]
    split <;> rfl
  have hpending : ((a.changeClass h c).pending.map fun e => (e.hatch, e.m, e.n)).Perm
      (a.pending.map fun e => (e.hatch, e.m, e.n)) := by
    simp only [Arbiter.changeClass]
    split
    · rename_i e he
      obtain rfl : e.hatch = h := by simpa using List.find?_some he
      refine ((insertEntry_perm _ _).map _).trans ?_
      exact ((perm_of_nodup_hatch l.one.pending (List.mem_of_find?_eq_some he)).map fun e => (e.hatch, e.m, e.n)).symm
    · exact .refl _
  have hall : ((clearedEntries (a.changeClass h c).pending (a.changeClass h c).granted).map fun e => (e.hatch, e.m, e.n)).Perm
      ((clearedEntries a.pending a.granted).map fun e => (e.hatch, e.m, e.n)) := by
    simp only [clearedEntries, List.map_append, List.map_map]
    refine List.Perm.append hpending (.of_eq hgranted)
  refine ⟨?_, ?_, fun e he => ?_⟩
  · have := hall.map (·.1)
    simp only [List.map_map] at this
    exact this.nodup_iff.mpr l.one
  · simp only [Arbiter.changeClass]
    split
    · exact ordered_insertEntry (l.ordered.filter _)
    · exact l.ordered
  · obtain ⟨x, hx, hxe⟩ := List.mem_map.mp (hall.mem_iff.mp (List.mem_map_of_mem he))
    have := l.bounds x hx
    simp only [Prod.mk.injEq] at hxe
    omega

/-! ### The laws at one operation of the Arbiter -/

theorem flowLawful_congr {s t : State} (hp : t.arbiter.pending = s.arbiter.pending)
    (hg : t.arbiter.granted = s.arbiter.granted) (hs : t.store = s.store) (h : FlowLawful s) : FlowLawful t := by
  rw [flowLawful_iff] at h ⊢
  rwa [hp, hg, hs]

theorem flowLawful_allocate {s : State} (h : FlowLawful s) : FlowLawful (allocate s) := by
  obtain ⟨scan, -⟩ := scans_scanned h.1 h.2.1
  rw [flowLawful_iff] at h ⊢
  obtain ⟨l, hstep⟩ := h
  refine ⟨⟨?_, ?_, ?_⟩, by rwa [(allocate_flowOnly s).store]⟩
  · rw [clearedEntries_allocate]
    exact l.one.perm scan.perm
  · rw [allocate_pending]
    exact scan.ordered
  · rw [clearedEntries_allocate]
    exact fun e he => l.bounds e (scan.perm.mem_iff.mp he)

/-- An allocation leaves the granted flow within the available flow, whatever stood before (R101 to R105). -/
theorem withinFlow_allocate {s : State} (h : FlowLawful s) : WithinFlow (allocate s) := by
  obtain ⟨scan, -⟩ := scans_scanned h.1 h.2.1
  have hmn : ∀ g ∈ (scanned s).granted, g.entry.m ≤ g.entry.n := fun g hg =>
    (flowLawful_iff.mp h).1.bounds g.entry.cleared
      (scan.perm.mem_iff.mp (List.mem_map_of_mem (List.mem_append_right _ (List.mem_map_of_mem hg))))
  rw [WithinFlow, allocate_granted, allocate_available]
  refine ⟨?_, ?_, fun g hg => ?_⟩
  · exact (sumM_withShares _ _).trans_le scan.fit
  · rw [withShares, List.map_map]
    exact sum_shares_le scan.fit hmn
  · obtain ⟨x, hx, rfl⟩ := List.mem_map.mp hg
    exact shareOf_bounds (hmn x hx)

theorem flowLawful_queueEntry {s : State} (h : Hatch) (d : Demand) (c : Cls) {n m : Nat} (hm : m ≤ n) (hl : FlowLawful s) :
    FlowLawful (queueEntry s h d c n m) := by
  simp only [queueEntry]
  split
  · exact hl
  · rename_i hh
    rw [flowLawful_iff] at hl ⊢
    obtain ⟨l, hstep⟩ := hl
    refine ⟨?_, hstep⟩
    split
    · exact l.renumber.insert hm (clearedEntries_has (by rw [has_renumber]; simpa using hh))
    · exact l.insert hm (clearedEntries_has (by simpa using hh))

theorem withinFlow_queueEntry {s : State} (h : Hatch) (d : Demand) (c : Cls) (n m : Nat) (hw : WithinFlow s) :
    WithinFlow (queueEntry s h d c n m) := by
  simp only [queueEntry]
  split
  · exact hw
  · split
    · obtain ⟨hm, hshare, hg⟩ := hw
      refine ⟨?_, ?_, ?_⟩
      · simpa [Arbiter.renumber, Function.comp_def] using hm
      · simpa [Arbiter.renumber, Function.comp_def] using hshare
      · simpa [Arbiter.renumber] using hg
    · exact hw

theorem flowLawful_left {s : State} (h : Hatch) (hl : FlowLawful s) : FlowLawful { s with arbiter := { s.arbiter with
    pending := s.arbiter.pending.filter fun e => e.hatch != h
    granted := s.arbiter.granted.filter fun g => g.entry.hatch != h } } := by
  rw [flowLawful_iff] at hl ⊢
  exact ⟨hl.1.sublists List.filter_sublist List.filter_sublist, hl.2⟩

theorem flowLawful_changeClass {s : State} (h : Hatch) (c : Cls) (hl : FlowLawful s) :
    FlowLawful { s with arbiter := s.arbiter.changeClass h c } := by
  rw [flowLawful_iff] at hl ⊢
  exact ⟨hl.1.changeClass h c, hl.2⟩

/-! ### The laws over every step -/

/-- The laws of the Arbiter, and where `W` asks for it the granted flow within the available flow. -/
def FlowHolds (W : Prop) (s : State) : Prop := FlowLawful s ∧ (W → WithinFlow s)

theorem FlowHolds.congr {W : Prop} {s t : State} (h : FlowHolds W s) (hp : t.arbiter.pending = s.arbiter.pending)
    (hg : t.arbiter.granted = s.arbiter.granted) (hs : t.store = s.store) (ha : t.supply.available = s.supply.available) :
    FlowHolds W t :=
  ⟨flowLawful_congr hp hg hs h.1, fun w => by simpa only [WithinFlow, hg, ha] using h.2 w⟩

theorem flowHolds_allocate {W : Prop} {s : State} (h : FlowLawful s) : FlowHolds W (allocate s) :=
  ⟨flowLawful_allocate h, fun _ => withinFlow_allocate h⟩

theorem flowHolds_worksKeep (W : Prop) : WorksKeep fun _ => FlowHolds W where
  mono _ h := h
  onAgenda _ h := h.congr rfl rfl rfl rfl
  onCtx _ h := h.congr rfl rfl rfl rfl
  onState _ h := h.congr rfl rfl rfl rfl
  onJudged _ h := h.congr rfl rfl rfl rfl
  onReclampEvent _ _ _ h := h.congr rfl rfl rfl rfl
  onSlot _ _ _ h := h.congr rfl rfl rfl rfl
  onChannel _ h := h.congr rfl rfl rfl rfl
  onChannels _ h := h.congr rfl rfl rfl rfl
  onJog _ h := h.congr rfl rfl rfl rfl
  onAllocate h := flowHolds_allocate h.1
  onQueueStep h name c hs := ⟨flowLawful_queueEntry h _ _ (stepsSound_params (flowLawful_iff.mp hs.1).2 name) hs.1,
    fun w => withinFlow_queueEntry _ _ _ _ _ (hs.2 w)⟩
  onTakeLeave h hs := by
    simp only [takeLeave]
    split
    · exact flowHolds_allocate (flowLawful_left h hs.1)
    · exact hs
  onTakeReclass h hs := by
    simp only [takeReclass]
    repeat' split
    · exact hs
    · exact hs
    · exact flowHolds_allocate (flowLawful_changeClass _ _ hs.1)
  onLink _ _ h := h.congr rfl rfl rfl rfl
  onPopped h := h.congr rfl rfl rfl rfl
  onKeys _ _ h := h.congr rfl rfl rfl rfl
  onRetain i h := by
    rw [retain_eq]
    exact h.congr rfl rfl rfl rfl
  onRetentionWrite _ h := by
    simp only [nextWrite]
    split <;> exact h.congr rfl rfl rfl rfl
  onRecord _ h := h.congr rfl rfl rfl rfl
  onRecords _ h := h.congr rfl rfl rfl rfl
  onTableBuilt _ h := h.congr rfl rfl rfl rfl
  onStore hc _ h := by
    obtain ⟨hl, hw⟩ := h
    rw [flowLawful_iff] at hl
    refine ⟨flowLawful_iff.mpr ⟨hl.1, ?_⟩, hw⟩
    rcases hc with hc | hc
    · simpa only [hc] using hl.2
    · exact stepsSound_of_sound hc
  onPump _ h := h.congr rfl rfl rfl rfl
  onAvailable _ h := flowHolds_allocate (flowLawful_congr rfl rfl rfl h.1)
  onSupply _ ha h := h.congr rfl rfl rfl ha
  onTimers hp hg h := h.congr hp hg rfl rfl
  onQueueJog _ _ h := ⟨flowLawful_queueEntry _ _ _ le_rfl h.1, fun w => withinFlow_queueEntry _ _ _ _ _ (h.2 w)⟩
  onStation _ _ h := h.congr rfl rfl rfl rfl
  onMarkEntries _ _ h := h.congr rfl rfl rfl rfl
  onJoinFifo f h := by
    simp only [joinFifo]
    split <;> exact h.congr rfl rfl rfl rfl
  onPlaced _ _ _ _ h := h.congr rfl rfl rfl rfl
  onRecounted _ _ h := h.congr rfl rfl rfl rfl
  onLifted _ h := h.congr rfl rfl rfl rfl
  onJunction _ _ h := h.congr rfl rfl rfl rfl
  onJunctionKept _ _ h := h.congr rfl rfl rfl rfl
  onAnalog _ h := h.congr rfl rfl rfl rfl
  onStops _ h := h.congr rfl rfl rfl rfl
  onChannelLine _ _ h := h.congr rfl rfl rfl rfl
  onAckValves _ h := h.congr rfl rfl rfl rfl
  onDrive _ h := h.congr rfl rfl rfl rfl
  onAnyStops _ h := h.congr rfl rfl rfl rfl

/-- The Arbiter is empty after a reset (R96), and the copy stands at the defaults. -/
theorem flowHolds_of_blank {W : Prop} {t : State} (ha : t.arbiter = .reset) (hc : t.store.copy = Image.default) :
    FlowHolds W t := by
  refine ⟨flowLawful_iff.mpr ⟨?_, by rw [hc]; exact stepsSound_of_sound CommandsKeep.default_sound⟩, fun _ => ?_⟩
  · rw [ha]
    exact ⟨List.nodup_nil, List.Pairwise.nil, fun e he => absurd he List.not_mem_nil⟩
  · rw [WithinFlow, ha]
    exact ⟨Nat.zero_le _, Nat.zero_le _, fun g hg => absurd hg List.not_mem_nil⟩

theorem flowHolds_stepKeeps (W : Prop) : StepKeeps fun _ => FlowHolds W where
  toExecKeeps := (flowHolds_worksKeep W).execKeeps (fun _ _ _ => flowHolds_of_blank rfl rfl) fun _ => flowHolds_of_blank rfl rfl
  onTick := tick_keeps (fun h => h.congr rfl rfl rfl rfl) (fun h => h.congr rfl rfl rfl rfl) fun _ _ h => h.congr rfl rfl rfl rfl
  onQueue _ h := h.congr rfl rfl rfl rfl

/-! ### At most one pump set is STARTING (R84) -/

theorem oneStarting_congr {s t : State} (h : ∀ k, (t.pump k).state = .starting → (s.pump k).state = .starting)
    (hs : OneStarting s) : OneStarting t := fun j k hj hk => hs j k (h j hj) (h k hk)

/-- A start decision is taken only while no set is STARTING (R104). -/
theorem startDecision_noneStarting {s : State} {e : Option Entry} {k : PumpId} (h : startDecision s e = some k) (j : PumpId) :
    (s.pump j).state ≠ .starting := by
  simp only [startDecision] at h
  split at h
  · rename_i hc
    simp only [Bool.and_eq_true, Bool.not_eq_true'] at hc
    have hnone := hc.1.1.2
    simp only [anyPump, List.any_eq_false, decide_eq_true_eq] at hnone
    exact hnone (s.supply.pumps.get j) (List.getElem_mem (by rw [s.supply.pumps.len]; exact j.isLt))
  · cases h

theorem oneStarting_startPump {s : State} {k : PumpId} (h : ∀ j, (s.pump j).state ≠ .starting) :
    OneStarting (startPump s k) := by
  have only : ∀ j, ((startPump s k).pump j).state = .starting → k = j := by
    intro j hj
    by_contra hne
    rw [startPump, State.pump_setPump_ne s _ hne] at hj
    exact h j hj
  exact fun i j hi hj => (only i hi).symm.trans (only j hj)

theorem oneStarting_allocate {s : State} (h : OneStarting s) : OneStarting (allocate s) := by
  simp only [allocate]
  split
  · rename_i k hk
    exact oneStarting_startPump fun j => startDecision_noneStarting hk j
  · exact h

theorem oneStarting_worksKeep : WorksKeep fun _ => OneStarting where
  mono _ h := h
  onAgenda _ h := h
  onCtx _ h := h
  onState _ h := h
  onJudged _ h := h
  onReclampEvent _ _ _ h := h
  onSlot _ _ _ h := h
  onChannel _ h := h
  onChannels _ h := h
  onJog _ h := h
  onAllocate := oneStarting_allocate
  onQueueStep _ _ _ h := by
    simp only [queueEntry]
    split <;> exact h
  onTakeLeave _ h := by
    simp only [takeLeave]
    split
    · exact oneStarting_allocate h
    · exact h
  onTakeReclass _ h := by
    simp only [takeReclass]
    repeat' split
    · exact h
    · exact h
    · exact oneStarting_allocate h
  onLink _ _ h := h
  onPopped h := h
  onKeys _ _ h := h
  onRetain i h := by
    rw [retain_eq]
    exact h
  onRetentionWrite _ h := by
    simp only [nextWrite]
    split <;> exact h
  onRecord _ h := h
  onRecords _ h := h
  onTableBuilt _ h := h
  onStore _ _ h := h
  onPump {S s k p} hp h := oneStarting_congr (fun j hj => by
    by_cases hk : k = j
    · subst hk
      rw [State.pump_setPump] at hj
      exact hp hj
    · rwa [State.pump_setPump_ne s _ hk] at hj) h
  onAvailable _ h := oneStarting_allocate h
  onSupply hp _ h := oneStarting_congr (fun k hk => by simpa only [State.pump, hp] using hk) h
  onTimers _ _ h := h
  onQueueJog _ _ h := by
    simp only [queueEntry]
    split <;> exact h
  onStation _ _ h := h
  onMarkEntries _ _ h := h
  onJoinFifo f h := by
    simp only [joinFifo]
    split <;> exact h
  onPlaced _ _ _ _ h := h
  onRecounted _ _ h := h
  onLifted _ h := h
  onJunction _ _ h := h
  onJunctionKept _ _ h := h
  onAnalog _ h := h
  onStops _ h := h
  onChannelLine _ _ h := h
  onAckValves _ h := h
  onDrive _ h := h
  onAnyStops _ h := h

/-- A pump set is TRIPPED or DISABLED after a reset (R81). -/
theorem oneStarting_of_blank {s t : State} (h : t.supply = (blank s).supply) : OneStarting t := by
  intro j _ hj
  rw [State.pump, h] at hj
  simp only [blank, Tbl.get_map, Pump.reset] at hj
  split at hj <;> cases hj

theorem ticked_state (p : Pump) : p.ticked.state = p.state := by
  simp only [Pump.ticked]
  split <;> simp_all

theorem oneStarting_tickTenth {s : State} (h : OneStarting s) : OneStarting (tickTenth s) :=
  oneStarting_congr (fun k hk => by simpa [State.pump, tickTenth, tickSupply, ticked_state] using hk) h

theorem oneStarting_stepKeeps : StepKeeps fun _ => OneStarting where
  toExecKeeps := oneStarting_worksKeep.execKeeps (fun {s} _ _ _ => oneStarting_of_blank (s := s) rfl)
    fun {s} _ => oneStarting_of_blank (s := s) rfl
  onTick := tick_keeps (fun h => h) oneStarting_tickTenth fun _ _ h => h
  onQueue _ h := h

end Sys2Proof.Machine

namespace Sys2Proof.Flow
open Sys2Proof Sys2Proof.Machine Sys2Proof.Safety

/-- Settles O53: an entry joins only where its hatch has none, and a start is decided only where no set is STARTING. -/
theorem stepKeepsFlowLaws : Obligations.StepKeepsFlowLaws :=
  ⟨fun _ _ hl he => ((flowHolds_stepKeeps False).onStep (P := fun _ => FlowHolds False) ⟨hl, False.elim⟩ he).1,
    fun _ _ hs he => oneStarting_stepKeeps.onStep hs he⟩

/-- Settles O54: whatever changes the granted set or the available flow ends in an allocation, whose scan grants only what fits and
stops at a head that does not fit or that it has shed. -/
theorem allocationStaysWithinFlow : Obligations.AllocationStaysWithinFlow := by
  refine ⟨fun _ _ hl hw he => ((flowHolds_stepKeeps True).onStep (P := fun _ => FlowHolds True) ⟨hl, fun _ => hw⟩ he).2 trivial,
    fun s hl => ?_⟩
  obtain ⟨scan, stops⟩ := scans_scanned hl.1 hl.2.1
  refine ⟨withinFlow_allocate hl, ?_, fun e he => ?_⟩
  · exact (List.Perm.of_eq (clearedEntries_allocate s)).trans scan.perm
  · rw [allocate_pending] at he
    rw [allocate_granted]
    refine (stops e he).imp (fun h => ?_) fun h => ⟨?_, scan.before _ h⟩
    · rwa [← sumM_withShares s.supply.available] at h
    · obtain ⟨xs, hxs⟩ := List.head?_eq_some_iff.mp he
      exact scan.marked e (hxs ▸ List.mem_cons_self) h

end Sys2Proof.Flow
end

section
/-!
The step, reset and start-up, the end of an image read that fails, and the commands that write one record or one list.
-/

namespace Sys2Proof.Machine
open Sys2Proof Sys2Proof.Safety

/-! ### What holds right after a reset -/

/-- The laws of the device (R16, R26, R84, R96, R98, R102, R105, R126, R160, R163). -/
def LawsHold (t : State) : Prop :=
  HoldsLawful t ∧ FlowLawful t ∧ WithinFlow t ∧ OneStarting t ∧ LinkBounded t ∧ RecordsInRange t ∧ TrippedAtRest t ∧
    VerdictsCurrent t

theorem lawsHold_reset : LawsHold State.reset := by
  have flow := flowHolds_of_blank (W := True) (t := State.reset) rfl rfl
  refine ⟨rfl, flow.1, flow.2 trivial, fun j _ hj => ?_, linkBounded_of_reset rfl, ?_, ?_,
    verdictsBut_empty.mp (verdictsBut_of_blank rfl rfl)⟩
  · simp [State.pump, State.reset, Pump.reset] at hj
  · exact recordsInRange_of_blank rfl (fun id => by simp [State.reset, Kept.built]) rfl
  · intro h c htrip
    simp [State.tripped, State.reset] at htrip

theorem lawsHold_started (s : State) : LawsHold (started s) := by
  have flow := flowHolds_of_blank (W := True) (t := started s) rfl rfl
  refine ⟨holdsLawful_started, flow.1, flow.2 trivial, oneStarting_of_blank (s := s) rfl, linkBounded_of_reset rfl,
    recordsInRange_started, fun h c _ => ?_, verdictsBut_empty.mp (verdictsBut_of_blank rfl rfl)⟩
  change ((blank s).channel h c).applied = 0
  rw [channel_blank]
  rfl

theorem exec_startUp {s : State} (h : s.inReset = true) : exec .startUp s = .next (started s) := by
  simp [exec, execStartUp, h]

/-! ### RESET and START_UP (R187, R188) -/

/-- A part in reset takes no event. -/
theorem quiet_reset {s : State} {f : State → State} (h : s.inReset = true) : quiet f s = .next s := by
  simp [quiet, h]

/-- Whether a RESET takes effect: a pulse of RESET_N shorter than 10 microseconds does not. -/
theorem exec_reset_long {src : ResetSource} (s : State) (h : ∀ us, src = .resetN us → 10 ≤ us) :
    ∃ kept cause, exec (.reset src) s = .next (holdReset s kept cause) := by
  cases src with
  | supplyFell vbak => exact ⟨vbak, .powerOn, rfl⟩
  | resetN us =>
    have : ¬ us < 10 := Nat.not_lt.mpr (h us rfl)
    exact ⟨true, .resetN, by simp [exec, execReset, this]⟩

/-- The RESTART entry blocks every motion of every hatch (R46). -/
theorem restartEntry_blocks (h : Hatch) (d : Demand) : restartEntry.blocks h d = true := by
  have covers : ∀ g : Hatch, restartEntry.covers g = true := by decide
  have kind : ∀ m : MotionKind, restartEntry.kind.blocks m = true := fun m => by cases m <;> rfl
  simp only [HoldEntry.blocks, covers, kind, Bool.true_and]
  cases d.isJog <;> rfl

theorem isBlocked_of_restart {s : State} {es : List HoldEntry} (hs : s.holds.entries = restartEntry :: es) (h : Hatch)
    (d : Demand) : isBlocked s h d = true := by
  simp [isBlocked, blockedBy, hs, restartEntry_blocks]

/-- The Hold List of a start-up with the retention memory valid (R46). -/
theorem tested_valid {r : Retention} (h : r.valid = true) : r.tested = { r with waiting := [], underWay := none } := by
  simp [Retention.tested, h]

theorem tested_invalid {r : Retention} (h : r.valid = false) :
    r.tested = ⟨[restartEntry], 1, Tbl.fill 288 .built, true, [], none⟩ := by
  simp [Retention.tested, h]

/-! ### Retention writes -/

theorem nextWrite_eq (s : State) : nextWrite s = { s with retention := { s.retention with
    underWay := s.retention.waiting.head?.map (retWriteOf s)
    waiting := s.retention.waiting.tail } } := by
  simp only [nextWrite]
  split
  · rename_i hw
    simp [hw]
  · rename_i i is hw
    simp [hw]

theorem exec_retentionWriteEnd {s : State} {w : RetWrite} (hr : s.inReset = false) (hw : s.retention.underWay = some w) :
    exec .retentionWriteEnd s = .next (nextWrite { s with retention := s.retention.committed w }) := by
  simp only [exec, execRetentionWriteEnd]
  rw [quiet_running hr, hw]

end Sys2Proof.Machine

namespace Sys2Proof.Basics
open Sys2Proof Sys2Proof.Machine Sys2Proof.Safety

/-- Settles O1: the two branches of the step. -/
theorem frontCommandRuns : Obligations.FrontCommandRuns :=
  ⟨fun _ _ _ => rfl, fun s h => by simp only [step, h]⟩

/-- Settles O3: the laws read only blocks that a reset and a start-up leave at their reset values. -/
theorem lawsHoldAtReset : Obligations.LawsHoldAtReset :=
  ⟨lawsHold_reset, fun s h => ⟨started s, exec_startUp h, lawsHold_started s⟩⟩

/-- Settles O4: every output line is off in reset, and a part in reset takes no event. -/
theorem resetSilencesOutputs : Obligations.ResetSilencesOutputs := by
  refine ⟨fun us s h => by simp [exec, execReset, h], fun src s h => ?_⟩
  obtain ⟨kept, cause, he⟩ := exec_reset_long s h
  have hr : (holdReset s kept cause).inReset = true := rfl
  refine ⟨_, he, hr, fun h c => ?_, fun h => ?_, fun k => ?_, ?_, ?_, rfl, rfl, fun f => ?_, ?_, ?_⟩
  · simp [State.driverDir, State.driverDuty, hr]
  · simp [State.vsupOn, hr]
  · simp [State.startLine, hr]
  · simp [State.allSecured, hr]
  · simp [State.alarm, hr]
  all_goals
    simp only [exec, execDeckFrameArrival, execFrameSent, execBroadcastCycle]
    exact quiet_reset hr

/-- Settles O5: each block by its reset value, the Hold List by the outcome of the retention test. -/
theorem startUpTakesResetValues : Obligations.StartUpTakesResetValues := by
  intro s h
  refine ⟨started s, exec_startUp h, rfl, rfl, rfl, rfl, rfl, fun k => ?_, rfl, rfl, rfl, rfl, rfl, fun h => ?_, fun h => ?_,
    fun id => ?_, fun h c => ?_, fun h => ?_, rfl, fun h => ?_, rfl, fun n => ?_, ⟨rfl, rfl⟩, rfl, rfl, rfl, rfl, rfl, rfl, rfl,
    rfl, fun h => ⟨rfl, ?_⟩, fun k => ?_, fun hv => ?_, fun hv => ?_⟩
  case _ => simp [started, blank, State.reset]
  case _ => simp [State.ctx, started, blank, State.reset, HatchCtx.reset]
  case _ => simp [started, blank, State.reset]
  case _ => simp [State.slot, started, blank, State.reset]
  case _ => exact channel_blank s h c
  case _ => simp [started, blank, State.reset]
  case _ => simp [started, blank, State.reset, Junction.polled, Junction.reset, PanelSense.reset, byteOf]
  case _ => simp [State.station, started, blank, State.reset, Station.reset]
  case _ => simp [started, State.reset]
  case _ =>
    simp only [State.pump, started, blank, Tbl.get_map]
    rfl
  case _ =>
    refine ⟨?_, by simp [started, tested_valid hv]⟩
    simp only [started, tested_valid hv]
    exact List.map_congr_left fun e _ => by simp [bne, beq_eq_decide]
  case _ =>
    have hold : (started s).holds = ⟨[restartEntry], 1⟩ := by
      simp [started, tested_invalid hv, restartEntry]
    have ret : (started s).retention = ⟨[restartEntry], 1, Tbl.fill 288 .built, true, [], none⟩ := by
      simp [started, tested_invalid hv]
    rw [hold, ret]
    refine ⟨rfl, rfl, rfl, rfl, ?_, isBlocked_of_restart (congrArg HoldList.entries hold)⟩
    simp [State.retentionLost, hold, restartEntry]

/-- Settles O7: a read that fails leaves the Configuration Store alone to change. -/
theorem imageFailureLeavesDefaults : Obligations.ImageFailureLeavesDefaults := by
  intro s ⟨hr, ha⟩ hi
  refine ⟨by simp [exec, execImageReadTimeout, quiet_running hr, hi, imageFails], fun image agrees hbad => ?_⟩
  have hfail : (agrees && !s.store.memoryFailing && image.inRange && image.sound) = false := by
    rcases hbad with h | h | h | h <;> simp [h]
  simp only [exec, execImageReadEnd, event_running hr, hi, hfail, if_true, Bool.false_eq_true, if_false]
  rw [settle_nil (by exact ha)]
  rfl

/-- Settles O9: only a PRESENT station whose timer has counted falls silent. -/
theorem silenceMakesStationAbsent : Obligations.SilenceMakesStationAbsent := by
  intro n s hr hp
  refine ⟨fun hs => ?_, fun hs => ?_⟩
  · simp only [exec, execSilenceTimerExpiry, quiet_running hr, hp, hs, decide_true, Bool.and_self, if_true]
    rfl
  · simp [exec, execSilenceTimerExpiry, quiet_running hr, hs]

/-- Settles O11: the overrun flag is cleared by a ship frame that reported it, and only while no frame was dropped since. -/
theorem sentFrameLeavesList : Obligations.SentFrameLeavesList := by
  intro s x xs hr htx
  have flag : (s.link.overrun && !(x.shipWithOverrun && !s.link.droppedSinceShip)) =
      if x.ident = 0x30B ∧ (x.data.get 0).getLsbD 5 = true ∧ s.link.droppedSinceShip = false then false
      else s.link.overrun := by
    split
    · rename_i h
      obtain ⟨hid, hbit, hdrop⟩ := h
      simp [TxFrame.shipWithOverrun, hid, hbit, hdrop]
    · rename_i h
      have : (x.shipWithOverrun && !s.link.droppedSinceShip) = false := by
        rw [← Bool.not_eq_true]
        intro hb
        simp only [TxFrame.shipWithOverrun, Bool.and_eq_true, decide_eq_true_eq, Bool.not_eq_true'] at hb
        exact h ⟨hb.1.1, hb.1.2, hb.2⟩
      simp [this]
  simp only [exec, execFrameSent, quiet_running hr, htx, flag]

/-- Settles O40: each writes one field of one record. -/
theorem channelLinesWriteRecord : Obligations.ChannelLinesWriteRecord := by
  intro s h c
  refine ⟨fun hr => ⟨fun hd => ?_, fun hd => ?_⟩, fun x => rfl⟩
  · simp [exec, execDeadtimeExpiry, quiet_running hr, hd]
  · simp [exec, execDeadtimeExpiry, quiet_running hr, hd]

/-- Settles O57: the memory takes the record of the write, and the next write takes its record as it stands. -/
theorem retentionWritesInOrder : Obligations.RetentionWritesInOrder := by
  intro s ⟨hr, _⟩
  refine ⟨fun hw => by simp [exec, execRetentionWriteEnd, quiet_running hr, hw], fun es c hw => ?_, fun id k hw => ?_⟩
  all_goals
    rw [exec_retentionWriteEnd hr hw, nextWrite_eq]
    congr 3
    simp only [Retention.committed]
    rcases s.retention.waiting with _ | ⟨_ | id, is⟩
    · rfl
    · rfl
    · simp only [List.head?_cons, Option.map_some, retWriteOf, keptOf]
      rfl

end Sys2Proof.Basics
end

section
/-!
The commands of the deck link: the arrival of a frame, the answers that the Link Port gives itself, and the broadcast cycle.
-/

namespace Sys2Proof.Safety
open Sys2Proof Sys2Proof.Machine

/-! ### The frame that is offered -/

section
variable {k : Nat} {s : State} {f : RxFrame}

theorem Offers.running (h : Offers k s f) : s.inReset = false := takeable_inReset h.1

theorem Offers.agenda (h : Offers k s f) : (popped s).agenda = [] := h.2.2.2

theorem Offers.ofKind (h : Offers k s f) : ofKind k f = true := decide_eq_true h.2.1

end
end Sys2Proof.Safety

namespace Sys2Proof.Machine
open Sys2Proof Sys2Proof.Safety

section
variable {k : Nat} {s : State} {f : RxFrame}

/-- A quiet command that takes the offered frame ends with its owner's work. -/
theorem quiet_taken {isIt : RxFrame → Bool} {owner : RxFrame → State → State} (h : Offers k s f) (hi : isIt f = true) :
    quiet (taking isIt owner) s = .next (owner f (popped s)) := by
  rw [quiet_running h.running, taking_offered h hi]

/-- A command that takes the offered frame ends when what its owner hands on has been taken. -/
theorem event_taken {isIt : RxFrame → Bool} {owner : RxFrame → State → State} (h : Offers k s f) (hi : isIt f = true) :
    event (taking isIt owner) s = .next (settle (owner f (popped s))) := by
  rw [event_running h.running, taking_offered h hi]

end

/-! ### Arrival -/

theorem acceptedRequest_data {n : StationId} {data : List Byte} (hn : n.val ≤ 13) (hd : data.length = 8) :
    acceptedRequest ⟨false, false, 0x200 + n.val, data⟩ = some ⟨n, eightBytes data⟩ := by
  have hr : requestStation (0x200 + n.val) = some n := by
    have : 0x200 ≤ 0x200 + n.val ∧ 0x200 + n.val ≤ 0x20D := by omega
    simp [requestStation, this]
  simp [acceptedRequest, hd, hr]

theorem acceptedRequest_none {f : CanFrame}
    (h : f.extended = true ∨ f.remote = true ∨ f.data.length ≠ 8 ∨ f.ident < 0x200 ∨ 0x20D < f.ident) :
    acceptedRequest f = none := by
  simp only [acceptedRequest]
  split
  · rfl
  · rename_i hc
    simp only [Bool.or_eq_true, not_or, Bool.not_eq_true, bne_iff_ne, ne_eq, not_not] at hc
    obtain ⟨⟨hext, hrem⟩, hlen⟩ := hc
    have : ¬ (0x200 ≤ f.ident ∧ f.ident ≤ 0x20D) := by
      rcases h with h | h | h | h | h
      · rw [hext] at h; cases h
      · rw [hrem] at h; cases h
      · exact absurd hlen h
      · omega
      · omega
    simp [requestStation, this]

theorem renewPresence_eq (s : State) (n : StationId) : renewPresence s n = { s with
    holds := { s.holds with
      entries := if (s.station n).present then s.holds.entries
        else s.holds.entries.map fun e => if e.owner = n then { e with stale := false } else e }
    link := { s.link with stations := s.link.stations.set n { s.station n with present := true, silence := 0 } } } := by
  by_cases h : (s.station n).present = true
  · simp [renewPresence, h, State.setStation]
  · simp [renewPresence, h, State.setStation, markEntries]

theorem joinFifo_eq (s : State) (f : RxFrame) : joinFifo s f = { s with link := { s.link with
    rx := if s.link.rx.length < 16 then s.link.rx ++ [f] else s.link.rx
    overrun := if s.link.rx.length < 16 then s.link.overrun else true
    droppedSinceShip := if s.link.rx.length < 16 then s.link.droppedSinceShip else true } } := by
  by_cases h : s.link.rx.length < 16
  · simp [joinFifo, h]
  · simp [joinFifo, h]

/-! ### Broadcasts (R192) -/

theorem causeCode_eq (c : HatchCtx) : causeCode c =
    if c.state = .held then (c.held.map HeldCause.code).getD 7
    else if c.state = .fault then (c.lastFault.map FaultCause.code).getD 7 else 7 := by
  simp only [causeCode]
  split <;> simp_all

theorem getElem?_allHatches (h : Hatch) : allHatches[h.val]? = some h := by
  rw [allHatches, List.getElem?_eq_getElem (by simp), List.getElem_finRange]
  rfl

/-- The frame of a hatch is the one of its place. -/
theorem broadcastFrames_hatch (s : State) (h : Hatch) : (broadcastFrames s)[h.val]? = some (hatchFrame s h) := by
  rw [broadcastFrames, List.getElem?_append_left (by simp [allHatches]), List.getElem?_map, getElem?_allHatches]
  rfl

/-- S is the sum over the three pump sets (R93). -/
theorem supplyS_eq (t : Tbl 3 Pump) : supplyS t =
    (if (t.get 0).state = .running then (t.get 0).rated else 0) + (if (t.get 1).state = .running then (t.get 1).rated else 0) +
      (if (t.get 2).state = .running then (t.get 2).rated else 0) := by
  obtain ⟨items, len⟩ := t
  obtain ⟨p, q, r, rfl⟩ := List.length_eq_three.mp len
  simp only [supplyS, List.map_cons, List.map_nil, List.sum_cons, List.sum_nil, Nat.add_zero, ← Nat.add_assoc]
  rfl

/-- Bit `k` of the flag byte of the ship frame. -/
theorem shipFlags_bits (squall secured lost valid resetN overrun : Bool) :
    let b := byteOf (bit squall 1 + bit secured 2 + bit lost 4 + bit valid 8 + bit resetN 1 * 16 + bit overrun 32)
    b.getLsbD 0 = squall ∧ b.getLsbD 1 = secured ∧ b.getLsbD 2 = lost ∧ b.getLsbD 3 = valid ∧ b.getLsbD 4 = resetN ∧
      b.getLsbD 5 = overrun := by
  revert squall secured lost valid resetN overrun
  decide

theorem resetCause_code (c : ResetCause) : c.code = bit (decide (c = .resetN)) 1 := by
  cases c <;> rfl

/-- The two latch bytes hold the ESTOP latch in bit 0 and the latch of each hatch in the bit of its number. -/
theorem latch_bytes (e b1 b2 b3 b4 b5 b6 b7 b8 b9 : Bool) :
    let n := bit e 1 + [bit b1 2, bit b2 4, bit b3 8, bit b4 16, bit b5 32, bit b6 64, bit b7 128, bit b8 256, bit b9 512].sum
    (byteOf n).getLsbD 0 = e ∧
      (List.range 9).map (fun k => (byteOf (n / 256) ++ byteOf n).getLsbD (k + 1)) = [b1, b2, b3, b4, b5, b6, b7, b8, b9] := by
  revert e b1 b2 b3 b4 b5 b6 b7 b8 b9
  decide +kernel

theorem latchBits_bytes (s : State) : (byteOf (latchBits s)).getLsbD 0 = s.stops.estopLatch ∧
    ∀ h : Hatch, (byteOf (latchBits s / 256) ++ byteOf (latchBits s)).getLsbD (h.val + 1) = s.stops.latch.get h := by
  obtain ⟨estop, hatches⟩ := latch_bytes s.stops.estopLatch (s.stops.latch.get 0) (s.stops.latch.get 1) (s.stops.latch.get 2)
    (s.stops.latch.get 3) (s.stops.latch.get 4) (s.stops.latch.get 5) (s.stops.latch.get 6) (s.stops.latch.get 7)
    (s.stops.latch.get 8)
  refine ⟨estop, fun h => ?_⟩
  have := congrArg (fun l => l[h.val]?) hatches
  fin_cases h <;> exact Option.some.inj this

end Sys2Proof.Machine

namespace Sys2Proof.DeckLink
open Sys2Proof Sys2Proof.Machine Sys2Proof.Safety

/-- Settles O8: presence first, then the FIFO; a frame that is not accepted is no event. -/
theorem frameArrivalJoinsFifo : Obligations.FrameArrivalJoinsFifo := by
  refine ⟨fun n data s hr hn hd => ?_, fun f s hf => ?_⟩
  · simp only [exec, execDeckFrameArrival, quiet_running hr, acceptedRequest_data hn hd, renewPresence_eq, joinFifo_eq]
  · simp only [exec, execDeckFrameArrival, quiet, acceptedRequest_none hf, ite_self]

/-- Settles O10: row 1 of R164 comes before the outstanding request is looked at. -/
theorem linkPortAnswersItself : Obligations.LinkPortAnswersItself := by
  refine ⟨fun s f ht hk => ?_, fun s f ho => ?_⟩
  · have hu : kindKnown f.kind = false := by
      simp only [kindKnown, Bool.and_eq_false_iff, decide_eq_false_iff_not]
      omega
    simp only [exec, execUnknownRequest, quiet_running (takeable_inReset ht), ht, hu, Bool.false_eq_true, if_false]
    rfl
  · exact quiet_taken ho ho.ofKind

/-- Settles O12: the frames of a cycle are built from the part as it stands. -/
theorem broadcastCycleRebuilds : Obligations.BroadcastCycleRebuilds := by
  intro s hr
  refine ⟨broadcastFrames s, ?_, rfl, fun h => ?_, ?_, shipFrame s, rfl, ?_⟩
  · simp only [exec, execBroadcastCycle, quiet_running hr]
    rfl
  · rw [broadcastFrames_hatch]
    simp only [hatchFrame, causeCode_eq]
    rfl
  · change some (supplyFrame s).data.items = _
    rw [supplyFrame, supplyS_eq]
    rfl
  · obtain ⟨squall, secured, lost, valid, resetN, overrun⟩ := shipFlags_bits s.squallActive s.allSecured s.retentionLost
      s.imageValid (decide (s.resetCause = .resetN)) s.link.overrun
    rw [← resetCause_code] at squall secured lost valid resetN overrun
    obtain ⟨estop, latches⟩ := latchBits_bytes s
    refine ⟨squall, secured, lost, valid, resetN, overrun, estop, latches, fun hl => ?_, fun k hk => ?_⟩
    · change (byteOf s.holds.entries.length).toNat = _
      simp only [byteOf, BitVec.toNat_ofNat]
      omega
    · obtain ⟨k, hlt⟩ := k
      obtain rfl | rfl | rfl | rfl : k = 4 ∨ k = 5 ∨ k = 6 ∨ k = 7 := by
        simp only at hk
        omega
      all_goals rfl

end Sys2Proof.DeckLink
end

section
/-!
LOOK and FIND: the checks of each owner, and the bytes of each record as R191 lays them out.
-/

namespace Sys2Proof.Machine
open Sys2Proof Sys2Proof.Safety

/-! ### The frame of a LOOK or FIND -/

section
variable {s : State} {f : RxFrame}

/-- A LOOK of a class of the table goes to the owner of the class (R169). -/
theorem look_taken {cls : Nat} {owner : State → RxFrame → State} (ho : Offers 2 s f) (hc : f.byte 2 = cls) (hle : cls ≤ 6) :
    quiet (taking (lookOrOther cls) (lookAnswer owner)) s = .next (owner (popped s) f) := by
  have hi : lookOrOther cls f = true := by
    simp [lookOrOther, isLook, RxFrame.lookClass, hc, show f.kind = kindLook from ho.2.1]
  have hl : ¬ 6 < f.lookClass := by
    simp only [RxFrame.lookClass, hc]
    omega
  rw [quiet_taken ho hi, lookAnswer, if_neg hl]

/-- A FIND of a class that has one goes to the owner of the class (R169). -/
theorem find_taken {cls : Nat} {owner : State → RxFrame → State} (ho : Offers 3 s f) (hc : f.byte 2 = cls) (hle : cls ≤ 1) :
    quiet (taking (findOrOther cls) (findAnswer owner)) s = .next (owner (popped s) f) := by
  have hi : findOrOther cls f = true := by
    simp [findOrOther, RxFrame.lookClass, hc, show f.kind = kindFind from ho.2.1]
  have hl : ¬ 1 < f.lookClass := by
    simp only [RxFrame.lookClass, hc]
    omega
  rw [quiet_taken ho hi, findAnswer, if_neg hl]

end

/-! ### Operands -/

theorem cleatOf_val (id : CleatId) : cleatOf id.val = some id := by
  simp [cleatOf, id.isLt]

theorem cleatOf_none {n : Nat} (h : 287 < n) : cleatOf n = none := by
  rw [cleatOf, dif_neg (by omega)]

theorem hatchOf_succ (h : Hatch) : hatchOf (h.val + 1) = some h := by
  rw [hatchOf, dif_pos (by omega)]
  rfl

theorem hatchOf_none {n : Nat} (h : n = 0 ∨ 9 < n) : hatchOf n = none := by
  rw [hatchOf, dif_neg (by omega)]

theorem pumpOf_succ (k : PumpId) : pumpOf (k.val + 1) = some k := by
  rw [pumpOf, dif_pos (by omega)]
  rfl

theorem pumpOf_none {n : Nat} (h : n = 0 ∨ 3 < n) : pumpOf n = none := by
  rw [pumpOf, dif_neg (by omega)]

/-! ### Bytes -/

/-- One flag in a byte of its own. -/
theorem byteOf_bit (b : Bool) : byteOf (bit b 1) = if b then 1 else 0 := by
  cases b <;> rfl

/-- The confirmation part: bit 4 of the first byte stands for UNFASTENED. -/
theorem cleatConfirmation_eq (r : Option CleatRec) : cleatConfirmation r = match r.bind (·.confirmation) with
    | none => [240, 0, 0, 0, 0]
    | some c => byteOf ((if c.fastened then 0 else 16) + c.station.val) :: bytes4 c.time := by
  simp only [cleatConfirmation]
  cases r.bind (·.confirmation) with
  | none => rfl
  | some c => cases hc : c.fastened <;> simp [bit, hc]

/-- A sample of the history as two bits, 0 where there is none. -/
def samplePair (history : List Sample) (k : Nat) : Nat :=
  match history[k]? with
  | none => 0
  | some x => bit x.first 2 + bit x.second 1

theorem sampleByte_eq (l : List Sample) : sampleByte l =
    byteOf (samplePair l 0 * 64 + samplePair l 1 * 16 + samplePair l 2 * 4 + samplePair l 3) := by
  have pair : ∀ k, (match l[k]? with
      | some x => bit x.first 2 + bit x.second 1
      | none => 0) = samplePair l k := by
    intro k
    rw [samplePair]
    cases l[k]? <;> rfl
  rw [← pair, ← pair, ← pair, ← pair]
  rfl

theorem sampleByte_drop (l : List Sample) (n : Nat) : sampleByte (l.drop n) =
    byteOf (samplePair l n * 64 + samplePair l (n + 1) * 16 + samplePair l (n + 2) * 4 + samplePair l (n + 3)) := by
  have pair : ∀ k, samplePair (l.drop n) k = samplePair l (n + k) := fun k => by simp only [samplePair, List.getElem?_drop]
  rw [sampleByte_eq, pair, pair, pair, pair, Nat.add_zero]

/-- The history part: eight pairs of bits, newest first. -/
theorem cleatHistory_eq (r : Option CleatRec) : cleatHistory r =
    let l := (r.map (·.history)).getD []
    [byteOf l.length,
      byteOf (samplePair l 0 * 64 + samplePair l 1 * 16 + samplePair l 2 * 4 + samplePair l 3),
      byteOf (samplePair l 4 * 64 + samplePair l 5 * 16 + samplePair l 6 * 4 + samplePair l 7)] := by
  rw [cleatHistory, sampleByte_drop, sampleByte_eq]

theorem any_hatchRecords {s : State} {h : Hatch} (p : CleatId × CleatRec → Bool) :
    (hatchRecords s h).any p = true ↔ ∃ id r, cleatHatch id = h ∧ s.slot id = some r ∧ p (id, r) = true := by
  simp only [List.any_eq_true, hatchRecords, List.mem_filterMap, Option.map_eq_some_iff]
  constructor
  · rintro ⟨_, ⟨id, hid, r, hr, rfl⟩, hp⟩
    exact ⟨id, r, cleatHatch_of_mem hid, hr, hp⟩
  · rintro ⟨id, r, rfl, hr, hp⟩
    exact ⟨(id, r), ⟨id, mem_hatchCleats id, r, hr, rfl⟩, hp⟩

/-- The positions of the three groups (R1). -/
def Group.range : Group → Nat × Nat
  | .port => (0, 13)
  | .stbd => (14, 27)
  | .cross => (28, 31)

theorem cleatGroup_iff (id : CleatId) (g : Group) : cleatGroup id = g ↔ g.range.1 ≤ id.val % 32 ∧ id.val % 32 ≤ g.range.2 := by
  simp only [cleatGroup]
  split_ifs
  all_goals
    cases g
    all_goals
      simp only [Group.range, reduceCtorEq, false_iff, true_iff]
      omega

/-- A group of a hatch holds a wanted cleat. -/
theorem wantedIn_eq (s : State) (h : Hatch) (g : Group) :
    ((hatchRecords s h).any fun r => r.2.wanted != .no && decide (cleatGroup r.1 = g)) =
      (List.finRange 288).any fun id =>
        decide (cleatHatch id = h ∧ g.range.1 ≤ id.val % 32 ∧ id.val % 32 ≤ g.range.2) &&
          ((s.slot id).map fun r => decide (r.wanted ≠ .no)).getD false := by
  rw [Bool.eq_iff_iff, any_hatchRecords]
  simp only [List.any_eq_true, List.mem_finRange, true_and, Bool.and_eq_true, decide_eq_true_eq, bne_iff_ne, cleatGroup_iff]
  constructor
  · rintro ⟨id, r, hh, hr, hw, hg⟩
    exact ⟨id, ⟨hh, hg⟩, by simp [hr, hw]⟩
  · rintro ⟨id, ⟨hh, hg⟩, hw⟩
    cases hr : s.slot id with
    | none => simp [hr] at hw
    | some r => exact ⟨id, r, hh, hr, by simpa [hr] using hw, hg⟩

theorem coils_eq (s : State) (h : Hatch) :
    (allChannels.map fun c => bit (s.channel h c).coilFault (2 ^ c.code)).sum =
      bit (s.channel h .rollPort).coilFault 1 + bit (s.channel h .rollStbd).coilFault 2 +
        bit (s.channel h .jackPort).coilFault 4 + bit (s.channel h .jackStbd).coilFault 8 +
        bit (s.channel h .cleatPort).coilFault 16 + bit (s.channel h .cleatStbd).coilFault 32 +
        bit (s.channel h .cleatCross).coilFault 64 := by
  simp [allChannels, Channel.code, Nat.add_assoc]

/-! ### The records of R191 that have no parts -/

theorem panelCode_byte (p : Option Panel) : byteOf (panelCode p) = match p with
    | none => 0
    | some .port => 1
    | some .stbd => 2 := by
  rcases p with _ | _ | _ <;> rfl

theorem tripCause_byte (c : Option TripCause) : byteOf (tripCauseCode c) = match c with
    | none => 0
    | some .failToStart => 1
    | some .runLost => 2
    | some .failToStop => 3 := by
  rcases c with _ | _ | _ | _ <;> rfl

/-- The start line is on in STARTING and RUNNING (R81). -/
theorem startLine_byte {s : State} (hr : s.inReset = false) (k : PumpId) : byteOf (bit (s.startLine k) 1) =
    if (s.pump k).state = .starting ∨ (s.pump k).state = .running then 1 else 0 := by
  simp only [byteOf_bit, State.startLine, hr, Bool.not_false, Bool.true_and, Bool.or_eq_true, decide_eq_true_eq]
  rfl

/-- The places with a clear written mark, as numbers. -/
theorem clearPlaces_eq (s : State) : clearPlaces s =
    (if s.imageValid then [] else (List.finRange 949).filter fun k => !s.store.written.get k).map (·.val) := by
  rw [clearPlaces]
  split
  · rfl
  · rw [← List.filterMap_eq_map, List.filterMap_filter]
    refine List.filterMap_congr fun k _ => ?_
    cases s.store.written.get k <;> rfl

theorem writtenMark_eq (s : State) (item idx : Nat) : writtenMark s item idx =
    (List.finRange 949).any fun k => decide (k.val = itemPlace item idx) && s.store.written.get k := by
  rw [Bool.eq_iff_iff]
  simp only [writtenMark, List.any_eq_true, List.mem_finRange, true_and, Bool.and_eq_true, decide_eq_true_eq]
  constructor
  · intro h
    split at h
    · rename_i hlt
      exact ⟨⟨itemPlace item idx, hlt⟩, rfl, h⟩
    · cases h
  · rintro ⟨k, hk, hw⟩
    rw [dif_pos (hk ▸ k.isLt)]
    have : (⟨itemPlace item idx, hk ▸ k.isLt⟩ : Fin 949) = k := Fin.ext hk.symm
    rwa [this]

/-- The kind byte of an offered frame. -/
theorem data_zero_of_offers {k : Nat} {s : State} {f : RxFrame} (h : Offers k s f) : f.data.get 0 = BitVec.ofNat 8 k := by
  have : (f.data.get 0).toNat = k := h.2.1
  rw [← this, BitVec.ofNat_toNat, BitVec.setWidth_eq]

/-- The first place of a full list at which an optional value is there. -/
theorem findSome?_finRange {n : Nat} {α : Type} {g : Fin n → Option α} {i : Fin n} {x : α} (hi : g i = some x)
    (hlow : ∀ j, j.val < i.val → g j = none) : (List.finRange n).findSome? g = some x := by
  rw [List.findSome?_eq_some_iff]
  have hlen : i.val < (List.finRange n).length := by simp
  refine ⟨(List.finRange n).take i.val, i, (List.finRange n).drop (i.val + 1), ?_, hi, fun j hj => hlow j ?_⟩
  · calc List.finRange n = (List.finRange n).take i.val ++ (List.finRange n).drop i.val := (List.take_append_drop _ _).symm
      _ = _ := by rw [List.drop_eq_getElem_cons hlen]; simp
  · obtain ⟨k, hk, rfl⟩ := List.mem_iff_getElem.mp hj
    rw [List.length_take] at hk
    simp only [List.getElem_take, List.getElem_finRange, Fin.val_cast]
    omega

/-- What `findCleatFrom` asks of one id. -/
theorem findCleatFrom_eq (s : State) (start filter : Nat) : findCleatFrom s start filter =
    (List.finRange 288).findSome? fun id => (s.slot id).bind fun r =>
      if start ≤ id.val ∧ r.matchesFilter filter then some (id, r) else none := by
  rw [findCleatFrom]
  congr 1
  funext id
  cases s.slot id <;> rfl

theorem findCleatFrom_none {s : State} {start filter : Nat}
    (h : ∀ id : CleatId, start ≤ id.val → ∀ r, s.slot id = some r → r.matchesFilter filter = false) :
    findCleatFrom s start filter = none := by
  rw [findCleatFrom_eq, List.findSome?_eq_none_iff]
  intro id _
  cases hr : s.slot id with
  | none => rfl
  | some r =>
    rw [Option.bind_some, if_neg]
    rintro ⟨hs, hm⟩
    rw [h id hs r hr] at hm
    cases hm

theorem findCleatFrom_some {s : State} {start filter : Nat} {id : CleatId} {r : CleatRec} (hs : start ≤ id.val)
    (hr : s.slot id = some r) (hm : r.matchesFilter filter = true)
    (hlow : ∀ j : CleatId, start ≤ j.val → j.val < id.val → ∀ x, s.slot j = some x → x.matchesFilter filter = false) :
    findCleatFrom s start filter = some (id, r) := by
  rw [findCleatFrom_eq]
  refine findSome?_finRange (i := id) (by rw [hr, Option.bind_some, if_pos ⟨hs, hm⟩]) fun j hj => ?_
  cases hx : s.slot j with
  | none => rfl
  | some x =>
    rw [Option.bind_some, if_neg]
    rintro ⟨hsj, hmj⟩
    rw [hlow j hsj hj x hx] at hmj
    cases hmj

/-- The entry is one that a FIND for this hatch number asks for: every one for 0 (R44). -/
theorem found_iff {e : HoldEntry} {n : Nat} : e.found n = true ↔ n = 0 ∨ ∃ h : Hatch, n = h.val + 1 ∧ e.covers h = true := by
  simp only [HoldEntry.found]
  split
  · rename_i h hh
    simp only [hatchOf] at hh
    split at hh
    · obtain rfl := Option.some.inj hh
      refine ⟨fun hc => .inr ⟨_, by simp only; omega, hc⟩, ?_⟩
      rintro (hz | ⟨g, hg, hc⟩)
      · omega
      · have : g = ⟨n - 1, by omega⟩ := Fin.ext (by simp only; omega)
        rwa [← this]
    · cases hh
  · rename_i hh
    refine ⟨fun h => .inl (by simpa using h), ?_⟩
    rintro (hz | ⟨g, hg, -⟩)
    · simpa using hz
    · rw [hg, hatchOf_succ] at hh
      cases hh

/-- The first entry from a position that a FIND asks for. -/
theorem findHold_some {es : List HoldEntry} {start n pos : Nat} {e : HoldEntry} (hs : start ≤ pos) (he : es[pos]? = some e)
    (hf : e.found n = true)
    (hlow : ∀ j x, start ≤ j → j < pos → es[j]? = some x → x.found n = false) :
    (es.zipIdx.find? fun x => decide (start ≤ x.2) && x.1.found n) = some (e, pos) := by
  obtain ⟨hlt, rfl⟩ := List.getElem?_eq_some_iff.mp he
  rw [List.find?_eq_some_iff_getElem]
  refine ⟨by simp [hs, hf], pos, by simpa using hlt, by simp, fun j hj => ?_⟩
  rw [List.getElem_zipIdx]
  by_cases hsj : start ≤ j
  · have := hlow j (es[j]'(by omega)) hsj hj (List.getElem?_eq_getElem (by omega))
    simp [this]
  · simp [hsj]

theorem findHold_none {es : List HoldEntry} {start n : Nat}
    (h : ∀ pos e, start ≤ pos → es[pos]? = some e → e.found n = false) :
    (es.zipIdx.find? fun x => decide (start ≤ x.2) && x.1.found n) = none := by
  rw [List.find?_eq_none]
  rintro ⟨e, pos⟩ hmem
  have he : es[pos]? = some e := List.mk_mem_zipIdx_iff_getElem?.mp hmem
  simp only [Bool.and_eq_true, decide_eq_true_eq, not_and, Bool.not_eq_true]
  exact fun hs => h pos e hs he

theorem byte_lt (f : RxFrame) (k : Fin 8) : f.byte k < 256 := (f.data.get k).isLt

end Sys2Proof.Machine

namespace Sys2Proof.DeckLink
open Sys2Proof Sys2Proof.Machine Sys2Proof.Safety

/-- Settles O14: the class, the record, the part and then the segment are tested in this order. -/
theorem lookGivesRecordParts : Obligations.LookGivesRecordParts := by
  intro s f ho answered flag
  refine ⟨fun hc => ?_, fun hc => ?_⟩
  · have look : exec .lookCleat s = .next (lookCleatAt (popped s) f) := look_taken ho hc (by decide)
    refine ⟨fun hid => ?_, fun id hid => ?_⟩
    · rw [look, lookCleatAt, cleatOf_none hid]
    · have at_id : lookCleatAt (popped s) f = match f.byte 3 with
          | 0 => answerSegment (popped s) f (cleatStanding (s.slot id))
          | 1 => answerSegment (popped s) f (cleatConfirmation (s.slot id))
          | 2 => answerSegment (popped s) f (cleatRetirement (s.slot id))
          | 3 => answerSegment (popped s) f (cleatHistory (s.slot id))
          | _ => reply (popped s) f .badValue := by
        rw [lookCleatAt, hid, cleatOf_val]
        rfl
      rw [look, at_id]
      have same : ∀ {p q : List Byte}, p = q → Host.Outcome.next (answerSegment (popped s) f p) =
          (.next (answered q) : Host.Outcome State Fault Refusal) := fun hpq => hpq ▸ rfl
      refine ⟨fun hp => ?_, fun hp => ?_, fun hp => ?_, fun hp => ?_, fun hp => ?_⟩
      · rw [hp]
        refine same ?_
        cases s.slot id <;> rfl
      · rw [hp]
        refine same ?_
        exact cleatConfirmation_eq _
      · rw [hp]
        refine same ?_
        rfl
      · rw [hp]
        refine same ?_
        exact cleatHistory_eq _
      · split <;> [omega; omega; omega; omega; rfl]
  · have look : exec .lookHatch s = .next (lookHatchAt (popped s) f) := look_taken ho hc (by decide)
    refine ⟨fun hh => ?_, fun h hh => ?_⟩
    · rw [look, lookHatchAt, hatchOf_none hh]
    · have at_h : lookHatchAt (popped s) f = match f.byte 3 with
          | 0 => answerSegment (popped s) f (hatchSequence s h)
          | 1 => answerSegment (popped s) f (hatchSecuring s h)
          | _ => reply (popped s) f .badValue := by
        rw [lookHatchAt, hh, hatchOf_succ]
        rfl
      rw [look, at_h]
      have same : ∀ {p q : List Byte}, p = q → Host.Outcome.next (answerSegment (popped s) f p) =
          (.next (answered q) : Host.Outcome State Fault Refusal) := fun hpq => hpq ▸ rfl
      refine ⟨fun hp => ?_, fun hp => ?_, fun hp => ?_⟩
      · rw [hp]
        refine same ?_
        simp only [hatchSequence, groupBits, reclampSet, wantedIn_eq]
        cases (s.ctx h).step <;> cases (s.ctx h).next <;> rfl
      · rw [hp]
        refine same ?_
        simp only [hatchSecuring, coils_eq, byteOf_bit]
        rfl
      · split <;> [omega; omega; rfl]

/-- Settles O15: each owner's checks come before the part and the segment. -/
theorem lookGivesWholeRecords : Obligations.LookGivesWholeRecords := by
  intro s f ho answered unknown flag hold running supply pump panel junction analog station named clear param
  have whole : ∀ part : List Byte, answerWhole (popped s) f part = answered part := by
    intro part
    by_cases hp : f.byte 3 = 0 <;> by_cases hseg : 5 * f.byte 4 < part.length <;>
      simp [answerWhole, answerSegment, answered, RxFrame.lookPart, RxFrame.lookSegment, hp, hseg]
  have same : ∀ {p q : List Byte}, p = q → Host.Outcome.next (answerWhole (popped s) f p) =
      (.next (answered q) : Host.Outcome State Fault Refusal) := fun hpq => hpq ▸ congrArg _ (whole _)
  have hr : s.inReset = false := ho.running
  have holdBytes : ∀ pos e, holdPart pos e = hold pos e := by
    intro pos e
    simp only [holdPart, panelCode_byte, staleCode, byteOf_bit]
    rfl
  have panelBytes : ∀ p, panelPart p = panel p := fun p => rfl
  have junctionBytes : ∀ j, junctionPart j = junction j := fun j => rfl
  have analogBytes : ∀ r, analogPart r = analog r := by
    intro r
    simp only [analogPart, byteOf_bit]
    rfl
  refine ⟨fun hc hsel => ?_, fun hc hsel => ?_, fun hc hsel => ?_, fun hc => ?_, fun hc => ?_, fun hc => ?_, fun hc => ?_⟩
  case _ =>
    have look : exec .lookHold s = .next (lookHoldAt (popped s) f) := look_taken ho hc (by decide)
    rw [look, lookHoldAt, hsel]
    refine ⟨fun hk => ?_, fun hk hnone => ?_, fun e hk he => ?_⟩
    · simp only [hk, if_true]
    · have : (popped s).holds.entries[f.byte 6]? = none := hnone
      simp only [Nat.not_lt.mpr hk, if_false, this]
    · have : (popped s).holds.entries[f.byte 6]? = some e := he
      simp only [Nat.not_lt.mpr hk, if_false, this]
      exact same (holdBytes _ _)
  case _ =>
    have look : exec .lookHold s = .next (lookHoldAt (popped s) f) := look_taken ho hc (by decide)
    rw [look, lookHoldAt, hsel]
    refine ⟨fun hnone => ?_, fun pos e hpos he => ?_⟩
    · have : (popped s).holds.entries.findIdx? (fun e => e.id = f.byte 6) = none := by
        rw [List.findIdx?_eq_none_iff]
        exact fun e he => decide_eq_false (hnone e he)
      simp only [this]
      rfl
    · have hpos : (popped s).holds.entries.findIdx? (fun e => e.id = f.byte 6) = some pos := hpos
      have he : (popped s).holds.entries[pos]? = some e := he
      simp only [hpos, he]
      exact same (holdBytes _ _)
  case _ =>
    have look : exec .lookHold s = .next (lookHoldAt (popped s) f) := look_taken ho hc (by decide)
    rw [look, lookHoldAt]
    split <;> [omega; omega; rfl]
  case _ =>
    have look : exec .lookSupply s = .next (lookSupplyAt (popped s) f) := look_taken ho hc (by decide)
    rw [look, lookSupplyAt]
    refine ⟨fun hk => ?_, fun k hk => ?_, fun hk => ?_⟩
    · rw [if_pos hk]
      refine same ?_
      simp only [supplyPart, supplyS_eq, padded]
      rfl
    · rw [if_neg (by omega), hk, pumpOf_succ]
      refine same ?_
      simp only [pumpPart, startLine_byte (s := popped s) hr, tripCause_byte, byteOf_bit]
      rfl
    · rw [if_neg (by omega), pumpOf_none (.inr hk)]
  case _ =>
    have look : exec .lookSensing s = .next (lookSensingAt (popped s) f) := look_taken ho hc (by decide)
    rw [look, lookSensingAt]
    refine ⟨fun h hh => ?_, fun hk => ?_, fun hk => ?_, fun hk => ?_, fun hk => ?_, fun hk => ?_⟩
    · rw [hh, hatchOf_succ]
      exact same (junctionBytes _)
    · rw [hk, hatchOf_none (by omega)]
      exact same (analogBytes _)
    · rw [hk, hatchOf_none (by omega)]
      exact same (analogBytes _)
    · rw [hk, hatchOf_none (by omega)]
      exact same (analogBytes _)
    · rw [hk, hatchOf_none (by omega)]
      exact same (analogBytes _)
    · rw [hatchOf_none (by omega)]
      simp only
      split <;> [omega; omega; omega; omega; rfl]
  case _ =>
    have look : exec .lookStation s = .next (lookStationAt (popped s) f) := look_taken ho hc (by decide)
    rw [look, lookStationAt]
    refine ⟨fun n hn => ?_, fun hk => ?_⟩
    · rw [dif_pos (by omega)]
      have : (⟨f.byte 5, by omega⟩ : StationId) = n := Fin.ext hn
      rw [this]
      refine same ?_
      have hlen : (popped s).link.rx.length = s.link.rx.length - 1 := List.length_tail
      simp only [stationPart, byteOf_bit, data_zero_of_offers ho, hlen]
      cases hout : ((popped s).station n).outstanding
      all_goals
        have hout' : (s.station n).outstanding = _ := hout
        simp only [station, hout']
        rfl
    · rw [dif_neg (by omega)]
  case _ =>
    have look : exec .lookParam s = .next (lookParamAt (popped s) f) := look_taken ho hc (by decide)
    rw [look, lookParamAt]
    refine ⟨fun he => ?_, fun he => ?_⟩
    · rw [if_pos he]
      refine same ?_
      have named' : ∀ i, itemBytes i = named i := fun i => by rcases i with _ | ⟨item, idx⟩ <;> rfl
      have hclear : clearPlaces (popped s) = clear.map (·.val) := clearPlaces_eq _
      simp only [paramPart, named', hclear, writtenMark_eq, byteOf_bit, List.length_map, List.head?_map, Option.map_map]
      rfl
    · rw [if_neg (by simp [he])]

/-- Settles O16: the searches go up from the start and end at the first match. -/
theorem findGivesFirstMatch : Obligations.FindGivesFirstMatch := by
  intro s f ho hv cleat hold
  have hv : (popped s).imageValid = true := hv
  refine ⟨fun hc hid hfilter => ?_, fun hc hpos hhatch => ?_⟩
  · have find : exec .findCleat s = .next (findCleatAt (popped s) f) := find_taken ho hc (by decide)
    rw [find, findCleatAt]
    simp only [hv, Bool.not_true, Bool.false_eq_true, if_false, Nat.not_lt.mpr hid, Nat.not_lt.mpr hfilter]
    refine ⟨fun hnone => ?_, fun id r hs hr hm hlow => ?_⟩
    · rw [findCleatFrom_none (s := popped s) fun id hs r hr => ?_]
      rw [← Bool.not_eq_true]
      exact fun hm => hnone id hs ⟨r, hr, hm⟩
    · rw [findCleatFrom_some (s := popped s) hs hr hm fun j hs hj x hx => ?_]
      rw [← Bool.not_eq_true]
      exact fun hm => hlow j hs hj ⟨x, hx, hm⟩
  · have find : exec .findHold s = .next (findHoldAt (popped s) f) := find_taken ho hc (by decide)
    have hin : ¬ (47 < f.word 3 ∨ 9 < f.byte 5) := by omega
    have hfound : ∀ e : HoldEntry, ¬ hold e → e.found (f.byte 5) = false := by
      intro e hn
      rw [← Bool.not_eq_true]
      exact fun hf => hn (found_iff.mp hf)
    rw [find, findHoldAt]
    simp only [hv, Bool.not_true, Bool.false_eq_true, if_false, hin]
    refine ⟨fun hnone => ?_, fun pos e hs he hh hlow => ?_⟩
    · rw [findHold_none (es := (popped s).holds.entries) fun pos e hs he => hfound e (hnone pos e hs he)]
    · rw [findHold_some (es := (popped s).holds.entries) hs he (found_iff.mpr hh) fun j x hs hj hx => hfound x (hlow j x hs hj hx)]
      rfl

end Sys2Proof.DeckLink
end

section
/-!
Rules of the Sequencer's operations: what each writes to its own hatch, what it leaves of the others, and how the hand-offs of an
event are taken one after the other.
-/

namespace Sys2Proof.Machine
open Sys2Proof Sys2Proof.Safety

/-! ### Hand-offs, one by one -/

/-- The first `k` hand-offs of `s` lead to `t`. -/
def Takes (k : Nat) (s t : State) : Prop := ∀ n, drain (n + k) s = drain n t

namespace Takes
variable {j k : Nat} {s t u : State}

theorem refl (s : State) : Takes 0 s s := fun _ => rfl

theorem trans (h : Takes j s t) (g : Takes k t u) : Takes (k + j) s u := fun n => by
  rw [← Nat.add_assoc, h, g]

/-- The hand-off that was pushed last is taken first. -/
theorem push (s : State) (t : Task) (ts : List Task) : Takes 1 (s.push (t :: ts)) (runTask t (s.push ts)) := fun n => by
  rw [drain_cons n rfl]
  rfl

/-- Where nothing waits any more, the event is over. -/
theorem settled (h : Takes k s t) (hk : k ≤ 4096) (ht : t.agenda = []) : settle s = t := by
  have := h (4096 - k)
  rwa [Nat.sub_add_cancel hk, drain_nil _ ht] at this

end Takes

@[simp] theorem State.push_nil (s : State) : s.push [] = s := rfl

theorem State.push_push (s : State) (ts us : List Task) : (s.push ts).push us = s.push (us ++ ts) := by
  simp [State.push]

/-- The one hand-off that waits ends the event, where it hands on nothing. -/
theorem settle_push_one {s : State} {t : Task} (ha : (runTask t s).agenda = []) : settle (s.push [t]) = runTask t s :=
  (Takes.push s t []).settled (by omega) ha

/-- The part with another Arbiter. -/
def withArbiter (s : State) (a : Arbiter) : State := { s with arbiter := a }

section
variable (s : State) (a : Arbiter)

@[simp] theorem withArbiter_arbiter : (withArbiter s a).arbiter = a := rfl
@[simp] theorem withArbiter_hatches : (withArbiter s a).hatches = s.hatches := rfl
@[simp] theorem withArbiter_table : (withArbiter s a).table = s.table := rfl
@[simp] theorem withArbiter_drive : (withArbiter s a).drive = s.drive := rfl
@[simp] theorem withArbiter_supply : (withArbiter s a).supply = s.supply := rfl
@[simp] theorem withArbiter_holds : (withArbiter s a).holds = s.holds := rfl
@[simp] theorem withArbiter_link : (withArbiter s a).link = s.link := rfl
@[simp] theorem withArbiter_agenda : (withArbiter s a).agenda = s.agenda := rfl
@[simp] theorem withArbiter_ctx (h : Hatch) : (withArbiter s a).ctx h = s.ctx h := rfl
@[simp] theorem withArbiter_channel (h : Hatch) (c : Channel) : (withArbiter s a).channel h c = s.channel h c := rfl
@[simp] theorem withArbiter_slot (id : CleatId) : (withArbiter s a).slot id = s.slot id := rfl
@[simp] theorem withArbiter_outer : (withArbiter s a).outer = s.outer := rfl

end

/-- The withdrawal of the only entry empties the Arbiter and changes nothing else. -/
theorem takeLeave_empties {s : State} {h : Hatch} (ho : OnlyEntryOf s h) :
    ∃ a : Arbiter, takeLeave s h = withArbiter s a ∧ a.pending = [] ∧ a.granted = [] := by
  obtain ⟨⟨hp, hg⟩, heq⟩ := takeLeave_only ho
  exact ⟨_, heq, hp, hg⟩

theorem settle_removeEntry {s : State} {h : Hatch} (ho : OnlyEntryOf s h) (ha : s.agenda = []) :
    ∃ a : Arbiter, settle (removeEntry s h) = withArbiter s a ∧ a.pending = [] ∧ a.granted = [] := by
  obtain ⟨a, heq, hp, hg⟩ := takeLeave_empties ho
  refine ⟨a, ?_, hp, hg⟩
  rw [← heq]
  exact settle_push_one (by rw [show runTask (.leave h) s = takeLeave s h from rfl, heq]; exact ha)

/-! ### Fields that answers and retention writes leave alone -/

section
variable (s : State) (f : RxFrame) (c : Code) (d : List Byte) (i : RetItem)

@[simp] theorem popped_hatches : (popped s).hatches = s.hatches := rfl
@[simp] theorem popped_table : (popped s).table = s.table := rfl
@[simp] theorem popped_drive : (popped s).drive = s.drive := rfl
@[simp] theorem popped_arbiter : (popped s).arbiter = s.arbiter := rfl
@[simp] theorem popped_supply : (popped s).supply = s.supply := rfl
@[simp] theorem popped_holds : (popped s).holds = s.holds := rfl
@[simp] theorem popped_tx : (popped s).link.tx = s.link.tx := rfl
@[simp] theorem popped_ctx (h : Hatch) : (popped s).ctx h = s.ctx h := rfl
@[simp] theorem popped_channel (h : Hatch) (x : Channel) : (popped s).channel h x = s.channel h x := rfl
@[simp] theorem popped_slot (id : CleatId) : (popped s).slot id = s.slot id := rfl
@[simp] theorem popped_pump (k : PumpId) : (popped s).pump k = s.pump k := rfl

@[simp] theorem reply_drive : (reply s f c d).drive = s.drive := rfl
@[simp] theorem reply_arbiter : (reply s f c d).arbiter = s.arbiter := rfl
@[simp] theorem reply_supply : (reply s f c d).supply = s.supply := rfl
@[simp] theorem reply_holds : (reply s f c d).holds = s.holds := rfl
@[simp] theorem reply_ctx (h : Hatch) : (reply s f c d).ctx h = s.ctx h := rfl
@[simp] theorem reply_channel (h : Hatch) (x : Channel) : (reply s f c d).channel h x = s.channel h x := rfl
@[simp] theorem reply_slot (id : CleatId) : (reply s f c d).slot id = s.slot id := rfl

theorem settle_reply (ha : s.agenda = []) : settle (reply s f c d) = reply s f c d := settle_nil ha

@[simp] theorem retain_drive : (retain s i).drive = s.drive := congrArg (·.drive) (retain_eq s i)
@[simp] theorem retain_arbiter : (retain s i).arbiter = s.arbiter := congrArg (·.arbiter) (retain_eq s i)
@[simp] theorem retain_supply : (retain s i).supply = s.supply := congrArg (·.supply) (retain_eq s i)
@[simp] theorem retain_holds : (retain s i).holds = s.holds := congrArg (·.holds) (retain_eq s i)
@[simp] theorem retain_ctx (h : Hatch) : (retain s i).ctx h = s.ctx h := congrArg (·.ctx h) (retain_eq s i)
@[simp] theorem retain_channel (h : Hatch) (x : Channel) : (retain s i).channel h x = s.channel h x :=
  congrArg (·.channel h x) (retain_eq s i)
@[simp] theorem retain_slot (id : CleatId) : (retain s i).slot id = s.slot id := congrArg (·.slot id) (retain_eq s i)

end

theorem mem_allHatches (h : Hatch) : h ∈ allHatches := List.mem_finRange h

theorem nodup_allHatches : allHatches.Nodup := List.nodup_finRange 9

/-! ### A hatch's own records -/

theorem Tbl.set_set {n : Nat} {α : Type} (t : Tbl n α) (i : Fin n) (x y : α) : (t.set i x).set i y = t.set i y :=
  Tbl.ext_get fun j => by by_cases hj : i = j <;> [(subst hj; simp); simp [hj]]

theorem State.updCtx_updCtx (s : State) (h : Hatch) (f g : HatchCtx → HatchCtx) :
    (s.updCtx h f).updCtx h g = s.updCtx h fun x => g (f x) := by
  simp [State.updCtx, State.setCtx, State.ctx, Tbl.set_set]

section
variable (s : State) (h : Hatch)

@[simp] theorem State.updCtx_channel (f : HatchCtx → HatchCtx) (g : Hatch) (c : Channel) :
    (s.updCtx h f).channel g c = s.channel g c := rfl
@[simp] theorem State.updCtx_slot (f : HatchCtx → HatchCtx) (id : CleatId) : (s.updCtx h f).slot id = s.slot id := rfl
@[simp] theorem State.push_ctx (ts : List Task) (g : Hatch) : (s.push ts).ctx g = s.ctx g := rfl
@[simp] theorem State.push_channel (ts : List Task) (g : Hatch) (c : Channel) : (s.push ts).channel g c = s.channel g c := rfl
@[simp] theorem State.push_slot (ts : List Task) (id : CleatId) : (s.push ts).slot id = s.slot id := rfl

@[simp] theorem judged_ctx (g : Hatch) : (judged s h).ctx g = s.ctx g := rfl
@[simp] theorem judged_agenda : (judged s h).agenda = s.agenda := rfl
@[simp] theorem judged_arbiter : (judged s h).arbiter = s.arbiter := rfl
@[simp] theorem judged_supply : (judged s h).supply = s.supply := rfl
@[simp] theorem judged_drive : (judged s h).drive = s.drive := rfl
@[simp] theorem judged_channel (g : Hatch) (c : Channel) : (judged s h).channel g c = s.channel g c := rfl
@[simp] theorem judged_link : (judged s h).link = s.link := rfl
@[simp] theorem judged_holds : (judged s h).holds = s.holds := rfl
@[simp] theorem judged_slot (id : CleatId) : (judged s h).slot id = s.slot id := rfl

@[simp] theorem writeTargets_ctx (g : Hatch) : (writeTargets s h).ctx g = s.ctx g := rfl
@[simp] theorem writeTargets_agenda : (writeTargets s h).agenda = s.agenda := rfl
@[simp] theorem writeTargets_arbiter : (writeTargets s h).arbiter = s.arbiter := rfl
@[simp] theorem writeTargets_table : (writeTargets s h).table = s.table := rfl

@[simp] theorem dropStep_agenda : (dropStep s h).agenda = s.agenda := rfl
@[simp] theorem dropStep_arbiter : (dropStep s h).arbiter = s.arbiter := rfl
@[simp] theorem dropStep_table : (dropStep s h).table = s.table := rfl
@[simp] theorem dropStep_supply : (dropStep s h).supply = s.supply := rfl
@[simp] theorem dropStep_link : (dropStep s h).link = s.link := rfl
@[simp] theorem dropStep_holds : (dropStep s h).holds = s.holds := rfl

@[simp] theorem dropStep_ctx : (dropStep s h).ctx h = { s.ctx h with step := none } := by simp [dropStep]

/-- A dropped step leaves each channel of the hatch at command 0 (R57). -/
theorem dropStep_command (c : Channel) : ((dropStep s h).channel h c).sequencerTarget.command = 0 := by
  simp [dropStep, writeTargets, ChannelRec.sequencerWrites]

theorem dropStep_applied (c : Channel) : ((dropStep s h).channel h c).applied = (s.channel h c).applied :=
  applied_of_outer (dropStep_outer s h) h c

end

theorem channelsAtRest_iff {s : State} {h : Hatch} : channelsAtRest s h = true ↔ ∀ c, (s.channel h c).applied = 0 := by
  simp only [channelsAtRest, List.all_eq_true, decide_eq_true_eq]
  exact ⟨fun hr c => hr c (by cases c <;> decide), fun hr c _ => hr c⟩

theorem channelsAtRest_congr {s t : State} {h : Hatch} (ha : ∀ c, (t.channel h c).applied = (s.channel h c).applied) :
    channelsAtRest t h = channelsAtRest s h := by
  simp only [channelsAtRest, ha]

theorem channelsAtRest_false {s : State} {h : Hatch} {c : Channel} (hc : (s.channel h c).applied ≠ 0) :
    channelsAtRest s h = false :=
  Bool.eq_false_iff.mpr fun hr => hc (channelsAtRest_iff.mp hr c)

end Sys2Proof.Machine

namespace Sys2Proof.Safety
open Sys2Proof Sys2Proof.Machine

/-! ### The other hatches -/

namespace OtherHatchesKept
variable {s t u : State} {h : Hatch}

theorem refl (s : State) (h : Hatch) : OtherHatchesKept s s h := fun _ _ => ⟨rfl, rfl, fun _ => rfl, fun _ _ => rfl⟩

theorem trans (a : OtherHatchesKept s t h) (b : OtherHatchesKept t u h) : OtherHatchesKept s u h := fun g hg => by
  obtain ⟨hctx, hver, hchan, hslot⟩ := a g hg
  obtain ⟨hctx', hver', hchan', hslot'⟩ := b g hg
  exact ⟨hctx'.trans hctx, hver'.trans hver, fun c => (hchan' c).trans (hchan c),
    fun id hid => (hslot' id hid).trans (hslot id hid)⟩

/-- What leaves the contexts, the table and the channels as they are leaves every hatch as it is. -/
theorem of_fields (hh : t.hatches = s.hatches) (ht : t.table = s.table) (hd : t.drive.channels = s.drive.channels) :
    OtherHatchesKept s t h := fun g _ =>
  ⟨congrArg (·.get g) hh, by rw [ht], fun c => congrArg (fun x => (x.get g).get c) hd, fun id _ => congrArg (·.slots.get id) ht⟩

theorem withArbiter (s : State) (a : Arbiter) (h : Hatch) : OtherHatchesKept s (withArbiter s a) h := of_fields rfl rfl rfl

theorem reply (s : State) (f : RxFrame) (c : Code) (d : List Byte) (h : Hatch) : OtherHatchesKept s (reply s f c d) h :=
  of_fields rfl rfl rfl

theorem retain (s : State) (i : RetItem) (h : Hatch) : OtherHatchesKept s (retain s i) h :=
  of_fields (by simp) (by simp) (by simp)

theorem updCtx (s : State) (h : Hatch) (f : HatchCtx → HatchCtx) : OtherHatchesKept s (s.updCtx h f) h := fun _ hg =>
  ⟨State.ctx_updCtx_ne s f (Ne.symm hg), rfl, fun _ => rfl, fun _ _ => rfl⟩

theorem judged (s : State) (h : Hatch) : OtherHatchesKept s (judged s h) h := fun _ hg =>
  ⟨rfl, Tbl.get_set_ne _ _ (Ne.symm hg), fun _ => rfl, fun _ _ => rfl⟩

theorem updChannels (s : State) (h : Hatch) (f : Channel → ChannelRec → ChannelRec) :
    OtherHatchesKept s (s.updChannels h f) h := fun _ hg =>
  ⟨rfl, rfl, fun c => State.channel_updChannels_ne s f c (Ne.symm hg), fun _ _ => rfl⟩

theorem reclampEvent (s : State) (h : Hatch) (f : CleatRec → CleatRec) : OtherHatchesKept s (reclampEvent s h f) h := fun _ hg =>
  ⟨rfl, rfl, fun _ => rfl, fun id hid => by
    simp [Machine.reclampEvent, State.slot, hid, hg]⟩

theorem push (s : State) (h : Hatch) (ts : List Task) : OtherHatchesKept s (s.push ts) h := refl s h

theorem writeTargets (s : State) (h : Hatch) : OtherHatchesKept s (writeTargets s h) h := updChannels s h _

theorem dropStep (s : State) (h : Hatch) : OtherHatchesKept s (dropStep s h) h := (updCtx s h _).trans (writeTargets _ h)

theorem reclass (s : State) (h : Hatch) : OtherHatchesKept s (reclass s h) h := by
  simp only [Machine.reclass]
  split
  · exact refl s h
  · split
    · exact refl s h
    · exact (updCtx s h _).trans (push _ h _)

theorem clearMark (s : State) (h : Hatch) : OtherHatchesKept s (clearMark s h) h := by
  simp only [Machine.clearMark]
  split
  · exact (updCtx s h fun x => { x with mark := false }).trans (reclass _ h)
  · exact refl s h

theorem rejudge (s : State) (h : Hatch) : OtherHatchesKept s (rejudge s h) h := by
  simp only [Machine.rejudge]
  split
  · exact refl s h
  · split
    · exact (judged s h).trans (clearMark _ h)
    · exact judged s h

theorem enterState (s : State) (h : Hatch) (st : HatchState) (c : Option HeldCause) (n : Option NextState) :
    OtherHatchesKept s (enterState s h st c n) h := (updCtx s h _).trans (rejudge _ h)

theorem withdraw (s : State) (h : Hatch) : OtherHatchesKept s (withdraw s h) h := by
  simp only [Machine.withdraw]
  split
  · exact dropStep s h
  · exact refl s h

theorem faultHatch (s : State) (h : Hatch) (c : FaultCause) : OtherHatchesKept s (faultHatch s h c) h := by
  simp only [Machine.faultHatch]
  refine trans ?_ (updCtx _ h _)
  split
  · exact refl s h
  · refine trans ?_ (enterState _ h _ _ _)
    split
    · exact (withdraw s h).trans (reclampEvent _ h _)
    · exact withdraw s h

end OtherHatchesKept
end Sys2Proof.Safety
end

section
/-!
Placing a hold (R33 to R38).
-/

namespace Sys2Proof.Machine
open Sys2Proof Sys2Proof.Safety

/-! ### The tests of R34 -/

section
variable {s : State} {f : RxFrame} {kind : HoldKind} {panel : Option Panel}

theorem placeAuthority_monitor {n : StationId} {scope : BitVec 9} (h : roleOf n = .monitor) :
    placeAuthority n kind scope = false := by
  cases kind <;> simp [placeAuthority, h]

/-- A PLACE_HOLD that passes rows 1 to 8 of R34 comes to the search for a matching entry. -/
theorem placeRequest_places (h : Places s f kind panel) : placeRequest f (popped s) =
    match matching s f.station kind f.scope panel with
    | some e =>
      if e.count = 15 then reply (popped s) f .countFull [byteOf e.id, byteOf 15]
      else reply (recount (popped s) e.id (e.count + 1)) f .merged [byteOf e.id, byteOf (e.count + 1)]
    | none => if 48 ≤ s.holds.entries.length then reply (popped s) f .full else placeEntry (popped s) f kind panel := by
  obtain ⟨-, hv, hk, hs, hp, hpanel, ha, hr⟩ := h
  have hm : roleOf f.station ≠ .monitor := fun hm => by rw [placeAuthority_monitor hm] at ha; cases ha
  have hpop : (popped s).imageValid = true ∧ (popped s).retentionLost = false := ⟨hv, hr⟩
  have hnot : (panel.isSome && (kind != .crane || !oneHatch f.scope)) = false := by
    rcases hpanel with rfl | ⟨rfl, ho⟩
    · rfl
    · simp [ho]
  simp only [placeRequest, placeChecked, hpop, hm, hk, hs, hp, hnot, ha, Bool.not_true, Bool.false_eq_true, if_false]
  rfl

theorem exec_placeHold (h : Places s f kind panel) :
    exec .placeHold s = .next (settle (placeRequest f (popped s))) := event_taken h.1 h.1.ofKind

theorem matching_none (h : NoMatch s f.station kind f.scope panel) : matching s f.station kind f.scope panel = none := by
  refine List.find?_eq_none.mpr fun e he => ?_
  simpa [and_assoc] using h e he

theorem HoldEntry.matches_comm (e x : HoldEntry) : e.matches x = x.matches e := by
  simp [HoldEntry.matches, eq_comm]

/-- Two entries of a lawful list that match are one entry (R26). -/
theorem eq_of_matches {es : List HoldEntry} (hd : es.Pairwise fun e x => x.id ≠ e.id ∧ x.matches e = false) {x y : HoldEntry}
    (hx : x ∈ es) (hy : y ∈ es) (h : x.matches y = true) : x = y := by
  induction hd with
  | nil => cases hx
  | cons hhead _ ih =>
    rcases List.mem_cons.mp hx with rfl | hxs
    · rcases List.mem_cons.mp hy with rfl | hys
      · rfl
      · rw [HoldEntry.matches_comm, (hhead y hys).2] at h
        cases h
    · rcases List.mem_cons.mp hy with rfl | hys
      · rw [(hhead x hxs).2] at h
        cases h
      · exact ih hxs hys

/-- In a lawful list the entry that a placement matches is the only one (R26). -/
theorem matching_eq (hl : HoldsLawful s) {e : HoldEntry} (he : e ∈ s.holds.entries) :
    matching s e.owner e.kind e.scope e.panel = some e := by
  cases hf : matching s e.owner e.kind e.scope e.panel with
  | none => simpa using List.find?_eq_none.mp hf e he
  | some x =>
    have hx : x ∈ s.holds.entries := List.mem_of_find?_eq_some hf
    have hmatch := List.find?_some hf
    simp only [Bool.and_eq_true, decide_eq_true_eq] at hmatch
    obtain ⟨⟨⟨howner, hkind⟩, hscope⟩, hpanel⟩ := hmatch
    have hxe : x.matches e = true := by simp [HoldEntry.matches, howner, hkind, hscope, hpanel]
    rw [eq_of_matches (holdLaws_iff.mp hl).2.2 hx he hxe]

end

/-! ### The new entry -/

/-- The numbers from 1 to 255, searched from 1 upward. -/
theorem find_upward {p : Nat → Bool} {k : Nat} (h : ((List.range 255).map (· + 1)).find? p = some k) :
    1 ≤ k ∧ k ≤ 255 ∧ p k = true ∧ ∀ j, 1 ≤ j → j < k → p j = false := by
  obtain ⟨hp, i, hi, rfl, hbefore⟩ := List.find?_eq_some_iff_getElem.mp h
  simp only [List.length_map, List.length_range] at hi
  simp only [List.getElem_map, List.getElem_range] at hp hbefore ⊢
  refine ⟨by omega, by omega, hp, fun j h1 hj => ?_⟩
  have := hbefore (j - 1) (by omega)
  rw [Nat.sub_add_cancel h1] at this
  simpa using this

/-- A number that is not free is the id of an entry. -/
theorem not_free_iff {es : List HoldEntry} {k : Nat} : (es.all fun e => e.id != k) = false ↔ ∃ e ∈ es, e.id = k := by
  simp

theorem nextId_new {l : HoldList} (h : l.entries.length < 255) : NewId l (nextId l) := by
  have hfree := nextId_free h
  generalize hid : nextId l = id at hfree ⊢
  simp only [nextId] at hid
  split at hid
  · rename_i k hk
    obtain ⟨h1, h255, hp, hbefore⟩ := find_upward hk
    simp only [Bool.and_eq_true, decide_eq_true_eq, List.all_eq_true, bne_iff_ne] at hp
    refine hid ▸ ⟨h1, h255, hp.2, .inl ⟨hp.1, fun j hj hjk => ?_⟩⟩
    have := hbefore j (by omega) hjk
    rw [Bool.and_eq_false_iff] at this
    exact not_free_iff.mp (this.resolve_left (by simpa using hj))
  · rename_i hnone
    have habove : ∀ k, l.counter < k → k ≤ 255 → ∃ e ∈ l.entries, e.id = k := fun k hk h255 => by
      have := List.find?_eq_none.mp hnone k (by simpa using ⟨k - 1, by omega, by omega⟩)
      rw [Bool.not_eq_true, Bool.and_eq_false_iff] at this
      exact not_free_iff.mp (this.resolve_left (by simpa using hk))
    obtain ⟨k, hk, hkfree⟩ := exists_free_id h
    obtain ⟨i, hi⟩ : ∃ i, ((List.range 255).map (· + 1)).find? (fun k => l.entries.all fun e => e.id != k) = some i :=
      Option.isSome_iff_exists.mp (List.find?_isSome.mpr ⟨k, hk, by simpa using hkfree⟩)
    obtain ⟨h1, h255, -, hbefore⟩ := find_upward hi
    rw [hi, Option.getD_some] at hid
    exact ⟨hid ▸ h1, hid ▸ h255, hfree, .inr ⟨habove, fun j hj hjk => not_free_iff.mp (hbefore j hj (hid ▸ hjk))⟩⟩

/-- An entry that covers the hatch of no step meets none. -/
theorem holdMeets_idle {s : State} {e : HoldEntry} {h : Hatch} (hn : ∀ t, (s.ctx h).step = some t → e.covers h = false) :
    holdMeets e h s = s := by
  simp only [holdMeets]
  split
  · rfl
  · rename_i t ht
    simp [HoldEntry.blocks, hn t ht]

theorem holdMeetsJog_idle {s : State} {e : HoldEntry} (hn : ∀ j, s.drive.jog = some j → e.covers j.hatch = false) :
    holdMeetsJog e s = s := by
  simp only [holdMeetsJog]
  split
  · rename_i j hj
    simp [HoldEntry.blocks, hn j hj]
  · rfl

/-- Work that leaves the part as it is, hatch by hatch, leaves it as it is. -/
theorem foldr_idle {α : Type} {f : α → State → State} {s : State} {hs : List α} (hf : ∀ h ∈ hs, f h s = s) : hs.foldr f s = s := by
  induction hs with
  | nil => rfl
  | cons h hs ih => rw [List.foldr_cons, ih fun g hg => hf g (List.mem_cons_of_mem h hg), hf h List.mem_cons_self]

/-- Work that only one member of a list does is done once. -/
theorem foldr_once {α : Type} {f : α → State → State} {s : State} {x : α} {xs : List α} (hn : xs.Nodup) (hx : x ∈ xs)
    (hf : ∀ y ∈ xs, y ≠ x → ∀ u, f y u = u) : xs.foldr f s = f x s := by
  induction xs with
  | nil => cases hx
  | cons y ys ih =>
    obtain ⟨hy, hys⟩ := List.nodup_cons.mp hn
    rw [List.foldr_cons]
    rcases List.mem_cons.mp hx with rfl | hmem
    · rw [foldr_idle fun z hz => hf z (List.mem_cons_of_mem _ hz) (fun h => hy (h ▸ hz)) s]
    · rw [ih hys hmem fun z hz => hf z (List.mem_cons_of_mem _ hz)]
      exact hf y List.mem_cons_self (fun h => hy (h ▸ hmem)) _

/-- The entry that a placement adds. -/
def newEntry (s : State) (f : RxFrame) (kind : HoldKind) (panel : Option Panel) : HoldEntry :=
  ⟨nextId s.holds, f.station, kind, f.scope, panel, 1, !(s.station f.station).present, s.uptime⟩

/-- The part with the new entry in the list and the placement answered. -/
def entryPlaced (s : State) (f : RxFrame) (kind : HoldKind) (panel : Option Panel) : State :=
  reply (retain { s with holds := ⟨s.holds.entries ++ [newEntry s f kind panel], nextId s.holds⟩ } .holds)
    f .ok [byteOf (nextId s.holds), 1]

section
variable (s : State) (f : RxFrame) (kind : HoldKind) (panel : Option Panel)

@[simp] theorem entryPlaced_ctx (h : Hatch) : (entryPlaced s f kind panel).ctx h = s.ctx h := by simp [entryPlaced, State.ctx]
@[simp] theorem entryPlaced_drive : (entryPlaced s f kind panel).drive = s.drive := by simp [entryPlaced]
@[simp] theorem entryPlaced_arbiter : (entryPlaced s f kind panel).arbiter = s.arbiter := by simp [entryPlaced]
@[simp] theorem entryPlaced_supply : (entryPlaced s f kind panel).supply = s.supply := by simp [entryPlaced]
@[simp] theorem entryPlaced_agenda : (entryPlaced s f kind panel).agenda = s.agenda := by simp [entryPlaced]
@[simp] theorem entryPlaced_entries :
    (entryPlaced s f kind panel).holds.entries = s.holds.entries ++ [newEntry s f kind panel] := by simp [entryPlaced]

end

theorem placeEntry_eq (s : State) (f : RxFrame) (kind : HoldKind) (panel : Option Panel) : placeEntry s f kind panel =
    allHatches.foldr (holdMeets (newEntry s f kind panel)) (holdMeetsJog (newEntry s f kind panel) (entryPlaced s f kind panel)) :=
  rfl

/-- A scope of one hatch covers that hatch alone. -/
theorem scope_one (h g : Hatch) : (BitVec.ofNat 9 (2 ^ h.val)).getLsbD g.val = decide (g = h) := by
  revert h g
  decide

/-- An entry of the list that blocks a motion makes it blocked (R32). -/
theorem isBlocked_of_mem {s : State} {e : HoldEntry} {h : Hatch} {d : Demand} (he : e ∈ s.holds.entries)
    (hb : e.blocks h d = true) : isBlocked s h d = true := by
  simp only [isBlocked, blockedBy, Option.isSome_map, List.find?_isSome]
  exact ⟨e, he, hb⟩

/-- A withdrawn motion that is not yet at rest leaves the hatch STOPPING, with its step and its entry gone (R59, R60). -/
theorem settle_stopStep {s : State} {h : Hatch} {n : NextState} (ho : OnlyEntryOf s h) (ha : s.agenda = [])
    (hr : channelsAtRest s h = false) : ∃ a : Arbiter,
      settle (stopStep s h n) = withArbiter (judged ((dropStep s h).updCtx h fun x =>
        { x with state := .stopping, held := none, next := some n }) h) a ∧
      a.pending = [] ∧ a.granted = [] := by
  have hst : enterStopping (dropStep s h) h n =
      judged ((dropStep s h).updCtx h fun x => { x with state := .stopping, held := none, next := some n }) h := by
    simp only [enterStopping]
    rw [enterState_not_closed (by decide), if_neg]
    rw [Bool.not_eq_true, ← hr]
    exact channelsAtRest_congr fun c => dropStep_applied s h c
  rw [stopStep, hst]
  exact settle_removeEntry ho ha

end Sys2Proof.Machine

namespace Sys2Proof.HoldPlacements
open Sys2Proof Sys2Proof.Machine Sys2Proof.Safety

/-- Settles O18: the new entry meets no step and no jog. -/
theorem placementJoins : Obligations.PlacementJoins := by
  intro s f kind panel hp hm hlen hsteps hjog
  refine ⟨nextId s.holds, nextId_new (by omega), ?_⟩
  have hplaced : placeRequest f (popped s) = entryPlaced (popped s) f kind panel := by
    rw [placeRequest_places hp, matching_none hm, if_neg (by omega), placeEntry_eq, holdMeetsJog_idle, foldr_idle]
    · exact fun h _ => holdMeets_idle fun t ht => hsteps h t (by simpa using ht)
    · exact fun j hj => hjog j (by simpa using hj)
  rw [exec_placeHold hp, hplaced, settle_nil]
  · rfl
  · rw [entryPlaced_agenda, hp.1.agenda]

/-- Settles O19: in a lawful list the placement finds the one entry that it matches. -/
theorem matchingPlacementMerges : Obligations.MatchingPlacementMerges := by
  refine ⟨fun s f e hl he howner hscope hp => ?_, fun s f kind panel hp hm hlen => ?_⟩
  · have hmatch : matching s f.station e.kind f.scope e.panel = some e := howner ▸ hscope ▸ matching_eq hl he
    rw [exec_placeHold hp, placeRequest_places hp, hmatch]
    refine ⟨fun hc => ?_, fun hc => ?_⟩
    · have hmap : (s.holds.entries.map fun x => if x.id = e.id then { x with count := e.count + 1 } else x) =
          s.holds.entries.map fun x => if x.id = e.id then { x with count := x.count + 1 } else x := by
        refine List.map_congr_left fun x hx => ?_
        split
        · rename_i hid
          rw [eq_of_holdsLawful_of_id hl hx he hid]
        · rfl
      have hne : e.count ≠ 15 := by omega
      simp only [hne, if_false]
      rw [settle_nil (by simpa [recount] using hp.1.agenda)]
      simp only [recount, popped, hmap]
    · simp only [hc, if_true]
      rw [settle_reply _ _ _ _ hp.1.agenda]
      rfl
  · rw [exec_placeHold hp, placeRequest_places hp, matching_none hm]
    simp only [hlen, if_true]
    rw [settle_reply _ _ _ _ hp.1.agenda]

/-- Settles O20: the entry meets the step of its one hatch and of no other. -/
theorem placementStopsMotion : Obligations.PlacementStopsMotion := by
  intro s f kind h t hp hm hlen hscope hstep hkind hstate ho hjog ⟨c, hc⟩
  have hcovers : ∀ g, (newEntry (popped s) f kind none).covers g = decide (g = h) := fun g => by
    rw [HoldEntry.covers, newEntry, hscope, scope_one]
  have hblocks : (newEntry (popped s) f kind none).blocks h (.step t.name) = true := by
    rw [HoldEntry.blocks, hcovers]
    simp [newEntry, Demand.motion, Demand.isJog, hkind]
  have hmeets : holdMeets (newEntry (popped s) f kind none) h (entryPlaced (popped s) f kind none) =
      stopStep (entryPlaced (popped s) f kind none) h (.held .hold) := by
    simp only [holdMeets, entryPlaced_ctx, popped_ctx, hstep, hblocks, if_true]
    rcases hstate with hst | hst <;> rw [hst]
  have hplaced : placeRequest f (popped s) = stopStep (entryPlaced (popped s) f kind none) h (.held .hold) := by
    rw [placeRequest_places hp, matching_none hm]
    simp only [if_neg (show ¬ 48 ≤ s.holds.entries.length by omega)]
    rw [placeEntry_eq, holdMeetsJog_idle (fun j hj => by simp [popped, hjog] at hj),
      foldr_once nodup_allHatches (mem_allHatches h), hmeets]
    exact fun g _ hg u => holdMeets_idle fun _ _ => by simp [hcovers, hg]
  obtain ⟨a, hsettled, hpending, hgranted⟩ := settle_stopStep (s := entryPlaced (popped s) f kind none) (h := h) (n := .held .hold)
    (by simpa [OnlyEntryOf] using ho) (by rw [entryPlaced_agenda, hp.1.agenda]) (channelsAtRest_false (c := c) (by simpa [State.channel] using hc))
  rw [exec_placeHold hp, hplaced, hsettled]
  have kept := ((OtherHatchesKept.dropStep (entryPlaced (popped s) f kind none) h).trans (.updCtx _ h fun x =>
    { x with state := .stopping, held := none, next := some (.held .hold) })).trans (.judged _ h)
  refine ⟨_, rfl, ?ctx, ?others, ⟨hpending, hgranted⟩, ?command, ?channels, ?supply, ?entries, ?blocked⟩
  case ctx => simp
  case others => exact fun g hg => (kept g hg).1.trans (by simp)
  case command => exact fun c => by simpa using dropStep_command _ h c
  case channels => exact fun g c hg => ((kept g hg).2.2.1 c).trans (by simp [State.channel])
  case supply => simp
  case entries => simp
  case blocked => exact isBlocked_of_mem (e := newEntry (popped s) f kind none) (by simp) hblocks

end Sys2Proof.HoldPlacements
end

section
/-!
The Securing Table: hand confirmations, service changes, and what ALL_SECURED says.
-/

namespace Sys2Proof.Machine
open Sys2Proof Sys2Proof.Safety

/-! ### CONFIRM_CLEAT and SET_SERVICE -/

theorem byHand_iff {r : CleatRec} :
    r.byHand = true ↔ (r.service = .inService ∧ r.manual = true) ∨ r.service = .handSet := by
  simp [CleatRec.byHand]

theorem isHydraulic_iff {r : CleatRec} : r.isHydraulic = true ↔ r.service = .inService ∧ r.manual = false := by
  simp [CleatRec.isHydraulic]

/-- A confirmation on an unmarked hatch decides the verdict of the hatch afresh and hands nothing on. -/
theorem takeConfirmation_unmarked {s : State} {f : RxFrame} {id : CleatId} {r : CleatRec} (b : Bool)
    (hm : (s.ctx (cleatHatch id)).mark = false) : takeConfirmation s f id r b =
      judged (reply (retain (s.setSlot id (some { r with confirmation := some ⟨b, f.station, s.uptime⟩ })) (.cleat id))
        f .ok (bytes2 id.val ++ [if b then 0 else 1])) (cleatHatch id) := by
  have hb : byteOf (bit (!b) 1) = if b then 0 else 1 := by cases b <;> rfl
  rw [takeConfirmation, hb, rejudge_unmarked]
  simpa [State.setSlot, State.ctx] using hm

/-- A service change that takes no wanted cleat from the reclamp set hands nothing on. -/
theorem takeService_unmarked {s : State} {f : RxFrame} {id : CleatId} {r : CleatRec} {sv : Service}
    (hm : (s.ctx (cleatHatch id)).mark = false) (hw : r.wanted = .no ∨ sv = .inService) : takeService s f id r sv =
      judged (reply (retain (s.setSlot id (some (r.withService sv f.station s.uptime))) (.cleat id))
        f .ok (bytes2 id.val ++ [byteOf sv.code])) (cleatHatch id) := by
  have hn : (r.wanted != .no && sv != .inService) = false := by
    rcases hw with hw | hw <;> simp [hw]
  simp only [takeService, hn, Bool.false_eq_true, if_false]
  rw [rejudge_unmarked]
  simpa [State.setSlot, State.ctx] using hm

theorem serviceOf_code (sv : Service) : serviceOf sv.code = some sv := by cases sv <;> rfl

/-- The test of R12 that a request for an existing record comes to. -/
theorem setServiceAt_found {s : State} {f : RxFrame} {id : CleatId} {r : CleatRec} {sv : Service}
    (ha : roleOf f.station = .bridge ∨ roleOf f.station = .service) (hr : s.slot id = some r) (hc : f.byte 4 = sv.code)
    (hh : sv = .handSet → r.manual = false) : setServiceAt s f id =
      if serviceBusy s (cleatHatch id) then reply s f .busy else takeService s f id r sv := by
  have hauth : (roleOf f.station = .bridge || roleOf f.station = .service : Bool) = true := by simpa using ha
  have h3 : sv.code ≠ 3 := by cases sv <;> decide
  have hhand : (sv = .handSet && r.manual : Bool) = false := by
    simpa [Bool.and_eq_false_iff, Decidable.not_or_of_imp] using hh
  simp only [setServiceAt, hauth, h3, hr, hc, serviceOf_code, hhand, Bool.not_true, Bool.false_eq_true, if_false]

/-! ### ALL_SECURED (R16, R19) -/

/-- What a secured verdict is decided from (R16). -/
theorem judge_secured {s : State} {h : Hatch} (hj : (judge s h).1.isSecured = true) :
    judgedUnverified s h = false ∧ (s.ctx h).state = .closed ∧ (∀ p, panelPasses s h p = true) ∧ firstFailing s h = none ∧
      retiredCount s h ≤ s.params.allowance h := by
  simp only [judge] at hj
  split at hj
  · cases hj
  rename_i hv
  split at hj
  · cases hj
  rename_i hc
  split at hj
  · cases hj
  rename_i hport
  split at hj
  · cases hj
  rename_i hstbd
  split at hj
  · cases hj
  rename_i hfirst
  refine ⟨by simpa using hv, by simpa [State.ctx] using hc, fun p => ?_, hfirst, ?_⟩
  · cases p
    · simpa using hport
    · simpa using hstbd
  · split at hj
    · omega
    · split at hj
      · assumption
      · cases hj

theorem mem_hatchRecords {s : State} {h : Hatch} {id : CleatId} {r : CleatRec} :
    (id, r) ∈ hatchRecords s h ↔ cleatHatch id = h ∧ s.slot id = some r := by
  simp only [hatchRecords, List.mem_filterMap, Option.map_eq_some_iff, Prod.mk.injEq]
  refine ⟨fun ⟨i, hi, x, hx, hid, hxr⟩ => ?_, fun ⟨hid, hr⟩ => ⟨id, hid ▸ mem_hatchCleats id, r, hr, rfl, rfl⟩⟩
  subst hid hxr
  exact ⟨cleatHatch_of_mem hi, hx⟩

end Sys2Proof.Machine

namespace Sys2Proof.SecuringTable
open Sys2Proof Sys2Proof.Machine Sys2Proof.Safety

/-- Settles O23: the tests of R9 in order, then the confirmation on an unmarked hatch. -/
theorem confirmationReplacesPart : Obligations.ConfirmationReplacesPart := by
  intro s f id r ho hv hid ha hr hh hm
  have hauth : (f.station = localStation (cleatHatch id) || roleOf f.station = .service : Bool) = true := by simpa using ha
  have hhand : r.byHand = true := byHand_iff.mpr hh
  have hexec : exec .confirmCleat s = .next (settle (confirmCleatAt (popped s) f id)) := by
    have : (popped s).imageValid = true := hv
    rw [show exec .confirmCleat s = _ from event_taken ho ho.ofKind]
    simp only [confirmRequest, this, hid, cleatOf_val, Bool.not_true, Bool.false_eq_true, if_false]
  have htaken : ∀ b, settle (takeConfirmation (popped s) f id r b) = judged (reply
      (retain ((popped s).setSlot id (some { r with confirmation := some ⟨b, f.station, s.uptime⟩ })) (.cleat id))
      f .ok (bytes2 id.val ++ [if b then 0 else 1])) (cleatHatch id) := fun b => by
    rw [takeConfirmation_unmarked b (by simpa using hm), settle_nil]
    · rfl
    · simpa [State.setSlot] using ho.agenda
  have hat : confirmCleatAt (popped s) f id = if 1 < f.byte 4 then reply (popped s) f .badValue
      else if f.byte 4 = 0 && (s.ctx (cleatHatch id)).state != .closed then reply (popped s) f .notReady
      else if f.byte 4 = 1 && (s.ctx (cleatHatch id)).state.isMoving then reply (popped s) f .busy
      else takeConfirmation (popped s) f id r (f.byte 4 = 0) := by
    simp only [confirmCleatAt, hauth, hhand, popped_slot, hr, Bool.not_true, Bool.false_eq_true, if_false]
    cases hst : (s.ctx (cleatHatch id)).state <;> simp [hst, HatchState.isMoving]
  rw [hexec]
  refine ⟨fun h0 hc => ?_, fun h0 hc => ?_, fun h1 hn => ?_, fun h1 hn => ?_⟩
  · rw [show confirmCleatAt (popped s) f id = takeConfirmation (popped s) f id r true by simp [hat, h0, hc], htaken]
  · rw [show confirmCleatAt (popped s) f id = reply (popped s) f .notReady by simp [hat, h0, hc], settle_reply _ _ _ _ ho.agenda]
  · rw [show confirmCleatAt (popped s) f id = takeConfirmation (popped s) f id r false by simp [hat, h1, hn], htaken]
  · rw [show confirmCleatAt (popped s) f id = reply (popped s) f .busy by simp [hat, h1, hn], settle_reply _ _ _ _ ho.agenda]

/-- Settles O24: the test of a busy hatch, then the change of the record. -/
theorem serviceChangeResetsRecord : Obligations.ServiceChangeResetsRecord := by
  intro s f id r sv ho hv hid ha hr hc hh
  have hexec : exec .setService s = .next (settle (if serviceBusy s (cleatHatch id) then reply (popped s) f .busy
      else takeService (popped s) f id r sv)) := by
    have : (popped s).imageValid = true := hv
    rw [show exec .setService s = _ from event_taken ho ho.ofKind]
    simp only [serviceRequest, this, hid, cleatOf_val, Bool.not_true, Bool.false_eq_true, if_false]
    rw [setServiceAt_found (s := popped s) ha hr hc hh]
    rfl
  rw [hexec]
  refine ⟨fun hb => ?busy, fun hmove hhas hm hw => ?taken⟩
  case busy =>
    rw [if_pos (by simpa [serviceBusy] using hb), settle_reply _ _ _ _ ho.agenda]
  case taken =>
    rw [if_neg (by simp [serviceBusy, hmove, hhas]), takeService_unmarked (by simpa using hm) hw, settle_nil]
    · rfl
    · simpa [State.setSlot] using ho.agenda

/-- Settles O26: each verdict that stands in the table is decided by R16, step by step. -/
theorem allSecuredIsSound : Obligations.AllSecuredIsSound := by
  intro s hcurrent hall h
  have hsecured : (judge s h).1.isSecured = true := by
    simp only [State.allSecured, Bool.and_eq_true, List.all_eq_true] at hall
    rw [← (hcurrent h).1]
    exact hall.2 _ (List.getElem_mem _)
  obtain ⟨hver, hclosed, hpanels, hfirst, hretired⟩ := judge_secured hsecured
  have hlost : (s.junctions.get h).state ≠ .lost := by
    simp only [judgedUnverified, Bool.or_eq_false_iff, decide_eq_false_iff_not] at hver
    exact hver.1.1.2
  refine ⟨hclosed, hlost, fun p => by simpa [panelPasses] using hpanels p, fun id r hid hr hret => ?_, hretired⟩
  have hpasses : r.passes = true := by
    have := List.find?_eq_none.mp (Option.map_eq_none_iff.mp hfirst) (id, r) (mem_hatchRecords.mpr ⟨hid, hr⟩)
    simpa [CleatRec.counted, hret] using this
  refine ⟨fun hs hman => ?_, fun hhand => ?_⟩
  · simpa [CleatRec.passes, CleatRec.isHydraulic, hs, hman] using hpasses
  · have hnot : r.isHydraulic = false := by
      rcases hhand with hs | hman
      · simp [CleatRec.isHydraulic, hs]
      · simp [CleatRec.isHydraulic, hman]
    have hby : r.byHand = true := byHand_iff.mpr (by
      cases hs : r.service
      · exact .inl ⟨rfl, hhand.resolve_left (by simp [hs])⟩
      · exact .inr rfl
      · exact absurd hs hret)
    simp only [CleatRec.passes, hnot, Bool.false_eq_true, if_false, Bool.and_eq_true, Bool.not_eq_true'] at hpasses
    obtain ⟨hfast, hmis⟩ := hpasses
    refine ⟨hfast, fun hsens => ?_⟩
    simpa [CleatRec.mismatch, hby, hsens, hfast] using hmis

end Sys2Proof.SecuringTable
end

section
/-!
Orders that are answered with the records after the event: refusals of MOVE, ACK_FAULT, CANCEL_SQUALL, and the clearing of trips.
-/

namespace Sys2Proof.Machine
open Sys2Proof Sys2Proof.Safety

/-! ### The answer that closes an event -/

/-- The part with nothing left to hand on. -/
def State.idle (s : State) : State := { s with agenda := [] }

@[simp] theorem State.idle_ctx (s : State) (h : Hatch) : s.idle.ctx h = s.ctx h := rfl

theorem State.idle_of_nil {s : State} (h : s.agenda = []) : s.idle = s := by
  rw [State.idle, ← h]

/-- Hand-offs that each leave the part as it is are taken with no change. -/
theorem Takes.inert {s : State} (ts : List Task) (hi : ∀ t ∈ ts, ∀ us, runTask t (s.push us) = s.push us) :
    Takes ts.length (s.push ts) s := by
  induction ts with
  | nil => exact Takes.refl s
  | cons t ts ih =>
    have hfirst : Takes 1 (s.push (t :: ts)) (s.push ts) := by
      rw [← hi t List.mem_cons_self ts]
      exact Takes.push s t ts
    exact hfirst.trans (ih fun x hx => hi x (List.mem_cons_of_mem t hx))

/-- What is taken up where nothing waits changes nothing. -/
theorem Takes.takeUps_nothing {s : State} {hs : List Hatch} (hw : ∀ h ∈ hs, NothingWaits s h) :
    Takes (hs.flatMap fun h => [Task.squallTry h, .reclampTest h]).length (hs.foldr (fun h s => takeUp s h) s) s := by
  rw [foldr_takeUp]
  refine Takes.inert _ fun t ht us => ?_
  simp only [List.mem_flatMap, List.mem_cons, List.not_mem_nil, or_false] at ht
  obtain ⟨h, hh, rfl | rfl⟩ := ht
  · exact squallTry_unmarked (hw h hh).1
  · exact reclampTest_nothing (hw h hh).2

theorem takeUps_length (hs : List Hatch) :
    (hs.flatMap fun h => [Task.squallTry h, .reclampTest h]).length = 2 * hs.length := by
  simp [List.length_flatMap, Nat.mul_comm]

/-- An event ends with the answer that waited behind its hand-offs. -/
theorem settle_answered {k : Nat} {s w : State} {f : RxFrame} {c : Code} {x : Nat} (ht : Takes k s w) (hk : k ≤ 4095)
    (ha : w.agenda = [.answer f c x]) : settle s = replyStanding w.idle f c x := by
  have hlast : Takes 1 w (replyStanding w.idle f c x) := fun n => by
    rw [drain_cons n ha]
    rfl
  exact (ht.trans hlast).settled (by omega) rfl

theorem settle_answer {s : State} (ha : s.agenda = []) (f : RxFrame) (c : Code) (x : Nat) :
    settle (s.push [.answer f c x]) = replyStanding s f c x := by
  rw [settle_answered (Takes.refl _) (by omega) (by rw [State.agenda_push, ha]; rfl)]
  exact congrArg (replyStanding · f c x) (State.idle_of_nil ha)

section
variable {s : State} {f : RxFrame} {c : Code} {x : Nat} {h : Hatch}

/-- The answers to MOVE, HALT and ACK_FAULT carry the hatch and its state (R190). -/
theorem standingData_hatch (hk : f.kind = 4 ∨ f.kind = 5 ∨ f.kind = 6) (hh : f.byte 2 = h.val + 1) :
    standingData s f c x = [byteOf (h.val + 1), byteOf (s.ctx h).state.code, byteOf x] := by
  rcases hk with hk | hk | hk <;> simp [standingData, hk, hh, hatchOf_succ, kindMove, kindHalt, kindAckFault]

/-- The answer to ACK_TRIP carries its number and the latches (R190). -/
theorem standingData_trip (hk : f.kind = 13) (hh : f.byte 2 = h.val + 1) : standingData s f c x =
    [byteOf (h.val + 1), byteOf (bit (s.stops.latch.get h) 1), byteOf (bit s.stops.estopLatch 1)] := by
  simp [standingData, hk, hh, hatchOf_succ, kindMove, kindHalt, kindAckFault, kindAckTrip]

theorem standingData_estop (hk : f.kind = 13) (hh : f.byte 2 = 0) :
    standingData s f c x = [0, byteOf (bit s.stops.estopLatch 1)] := by
  simp [standingData, hk, hh, kindMove, kindHalt, kindAckFault, kindAckTrip]
  rfl

end

/-! ### Refusals of MOVE (R73) -/

/-- A MOVE that is neither accepted nor answered ALREADY is answered and does nothing. -/
theorem moveHatch_refused {s : State} {f : RxFrame} {h : Hatch} {opening : Bool} {c : Code}
    (hc : moveCode s f.station h opening = c) (hacc : c ≠ .accepted) (halr : c ≠ .already) :
    moveHatch f h opening s = s.push [.answer f c 0] := by
  simp only [moveHatch, hc]
  split
  · exact absurd rfl hacc
  · exact absurd rfl halr
  · rfl

theorem moveAuthority_iff {n : StationId} {h : Hatch} :
    moveAuthority n h = true ↔ roleOf n = .bridge ∨ roleOf n = .cargo ∨ n = localStation h := by
  simp [moveAuthority, or_assoc]

/-! ### ACK_FAULT (R77, R119) -/

theorem mismatchPresent_iff {s : State} {h : Hatch} : mismatchPresent s h = true ↔ ∃ c, (s.channel h c).mismatch ≠ .none := by
  simp only [mismatchPresent, List.any_eq_true, bne_iff_ne]
  exact ⟨fun ⟨c, _, hc⟩ => ⟨c, hc⟩, fun ⟨c, hc⟩ => ⟨c, by cases c <;> decide, hc⟩⟩

/-- The state that derivation chooses from the sensed panels (R50, R69). -/
def derivedState (s : State) (h : Hatch) : HatchState :=
  if bothClosed s h && bothJacks s h .lowered then .closed
  else if bothStowed s h && bothJacks s h .lowered && !anyBeyondStow s h then .open else .held

/-- The context that derivation leaves (R50). -/
def derivedCtx (s : State) (h : Hatch) (cause : HeldCause) : HatchCtx :=
  { s.ctx h with
    state := derivedState s h
    held := if derivedState s h = .held then some cause else none
    next := none
    faults := 0
    lastFault := none }

/-- Derivation of an unmarked hatch gives it its state and decides its verdict. -/
theorem derive_unmarked {s : State} {h : Hatch} (cause : HeldCause) (hm : (s.ctx h).mark = false) :
    derive s h cause = judged (s.setCtx h (derivedCtx s h cause)) h := by
  have hst : (if bothClosed s h && bothJacks s h .lowered then (HatchState.closed, none)
      else if bothStowed s h && bothJacks s h .lowered && !anyBeyondStow s h then (.open, none) else (.held, some cause)) =
      (derivedState s h, if derivedState s h = .held then some cause else none) := by
    simp only [derivedState]
    split
    · rfl
    · split <;> rfl
  simp only [derive, enterState, hst]
  rw [rejudge_unmarked (by simpa using hm)]
  rw [State.updCtx_updCtx]
  rfl

/-- The part with a fault acknowledged: the valves (R119), and the hatch derived from its panels (R77). -/
def faultAcked (s : State) (h : Hatch) : State := judged ((ackValves s h).setCtx h (derivedCtx s h .ack)) h

section
variable (s : State) (h : Hatch)

@[simp] theorem faultAcked_ctx : (faultAcked s h).ctx h = derivedCtx s h .ack := by simp [faultAcked]

theorem faultAcked_channel (c : Channel) :
    (faultAcked s h).channel h c = { s.channel h c with coilFault := false, mismatchTimer := 0 } :=
  State.channel_updChannels s h (fun _ r => { r with coilFault := false, mismatchTimer := 0 }) c

theorem faultAcked_others : OtherHatchesKept s (faultAcked s h) h :=
  ((OtherHatchesKept.updChannels s h fun _ r => { r with coilFault := false, mismatchTimer := 0 }).trans
    (.of_fields (t := ackValves s h) rfl rfl rfl)).trans ((OtherHatchesKept.updCtx _ h fun _ => derivedCtx s h .ack).trans (.judged _ h))

end

/-- The settled acknowledgement of a fault. -/
theorem settle_ackFault {s : State} {f : RxFrame} {h : Hatch} (ha : s.agenda = []) (hw : NothingWaits s h) :
    settle (takeUp (derive (ackValves (s.push [.answer f .ok 0]) h) h .ack) h) =
      replyStanding (faultAcked (s.push [.answer f .ok 0]) h).idle f .ok 0 := by
  rw [derive_unmarked _ (by exact hw.1)]
  refine settle_answered (Takes.takeUps_nothing (hs := [h]) (s := faultAcked (s.push [.answer f .ok 0]) h) fun g hg => ?_)
    (by simp) (congrArg ([Task.answer f .ok 0] ++ ·) ha)
  rw [List.mem_singleton.mp hg]
  exact ⟨by rw [faultAcked_ctx]; exact hw.1, hw.2⟩

/-! ### CANCEL_SQUALL (R151, R152) -/

/-- The part with the marks of some hatches clear. -/
def unmarked (hs : List Hatch) (s : State) : State :=
  { s with hatches := hs.foldr (fun h t => t.set h { s.ctx h with mark := false }) s.hatches }

theorem unmarked_ctx (hs : List Hatch) (s : State) (g : Hatch) :
    (unmarked hs s).ctx g = if g ∈ hs then { s.ctx g with mark := false } else s.ctx g := by
  simp only [unmarked, State.ctx]
  induction hs with
  | nil => simp
  | cons h hs ih =>
    by_cases hg : h = g
    · subst hg
      simp
    · simp [hg, Ne.symm hg, ih]

/-- A mark that clears on a hatch without a step leads to the test of R155 alone. -/
theorem clearMark_stepless {s : State} {h : Hatch} (hm : (s.ctx h).mark = true) (hs : (s.ctx h).step = none) :
    clearMark s h = (s.updCtx h fun x => { x with mark := false }).push [.reclampTest h] := by
  simp [clearMark, hm, reclass, hs]

/-- Marks that clear on hatches without a step. -/
theorem foldr_clearMark {s : State} {hs : List Hatch} (hn : hs.Nodup) (hm : ∀ h ∈ hs, (s.ctx h).mark = true ∧ (s.ctx h).step = none) :
    hs.foldr (fun h s => clearMark s h) s = (unmarked hs s).push (hs.map .reclampTest) := by
  induction hs with
  | nil => rfl
  | cons h hs ih =>
    obtain ⟨hh, hn⟩ := List.nodup_cons.mp hn
    obtain ⟨hmark, hstep⟩ := hm h List.mem_cons_self
    have hctx : ((unmarked hs s).push (hs.map .reclampTest)).ctx h = s.ctx h := by
      rw [State.push_ctx, unmarked_ctx, if_neg hh]
    rw [List.foldr_cons, ih hn fun g hg => hm g (List.mem_cons_of_mem h hg),
      clearMark_stepless (by rw [hctx]; exact hmark) (by rw [hctx]; exact hstep), State.updCtx, hctx]
    rfl

theorem squallActive_iff {s : State} : s.squallActive = true ↔ ∃ h, (s.ctx h).mark = true := by
  simp only [State.squallActive, List.any_eq_true]
  refine ⟨fun ⟨c, hc, hm⟩ => ?_, fun ⟨h, hm⟩ => ⟨_, List.getElem_mem _, hm⟩⟩
  obtain ⟨i, hi, rfl⟩ := List.getElem_of_mem hc
  exact ⟨⟨i, by rw [s.hatches.len] at hi; exact hi⟩, hm⟩

/-! ### Clearing of trips (R128, R129) -/

theorem loopHatch_succ {n : Fin 10} {h : Hatch} (hn : n.val = h.val + 1) : loopHatch n = some h := by
  have h0 : n.val ≠ 0 := by omega
  simp only [loopHatch, h0, dif_neg, not_false_eq_true, Option.some.injEq]
  exact Fin.ext (by simp [hn])

theorem Takes.takeUpUntripped_nothing {s : State} {hs : List Hatch} (hw : ∀ h ∈ hs, NothingWaits s h) :
    ∃ k, k ≤ 2 * hs.length ∧ Takes k (takeUpUntripped hs s) s := by
  refine ⟨_, ?_, Takes.takeUps_nothing fun h hh => hw h (List.mem_of_mem_filter hh)⟩
  rw [takeUps_length]
  exact Nat.mul_le_mul_left 2 (List.length_filter_le _ _)

/-- A clearing after which nothing waits ends with its answer. -/
theorem settle_cleared {s : State} {hs : List Hatch} {f : RxFrame} (hl : hs.length ≤ 9) (ha : s.agenda = [.answer f .ok 0])
    (hw : ∀ h ∈ hs, NothingWaits s h) : settle (takeUpUntripped hs s) = replyStanding s.idle f .ok 0 := by
  obtain ⟨k, hk, htakes⟩ := Takes.takeUpUntripped_nothing hw
  exact settle_answered htakes (by omega) ha

theorem ackTripAuthority_none {n : StationId} :
    ackTripAuthority n none = true ↔ roleOf n = .bridge ∨ roleOf n = .cargo ∨ roleOf n = .service := by
  simp [ackTripAuthority, or_assoc]

theorem ackTripAuthority_some {n : StationId} {h : Hatch} : ackTripAuthority n (some h) = true ↔
    (roleOf n = .bridge ∨ roleOf n = .cargo ∨ roleOf n = .service) ∨ n = localStation h := by
  simp [ackTripAuthority, or_assoc]

end Sys2Proof.Machine

namespace Sys2Proof.Orders
open Sys2Proof Sys2Proof.Machine Sys2Proof.Safety

/-- Settles O30: each row of R73 answers before the next one is looked at. -/
theorem moveRefusalsChangeNothing : Obligations.MoveRefusalsChangeNothing := by
  intro s f h ho hb hd
  have hrefused : ∀ c, moveCode s f.station h true = c → c ≠ .accepted → c ≠ .already →
      exec .move s = .next (reply (popped s) f c [byteOf (h.val + 1), byteOf (s.ctx h).state.code, 0]) := by
    intro c hc hacc halr
    have hm : moveHatch f h true (popped s) = (popped s).push [.answer f c 0] := moveHatch_refused hc hacc halr
    rw [show exec .move s = _ from event_taken ho ho.ofKind]
    simp only [moveRequest, hb, hd, hatchOf_succ]
    rw [hm, settle_answer ho.agenda, replyStanding, standingData_hatch (.inl ho.2.1) hb]
    rfl
  refine ⟨fun hno => ?authority, fun hmay hbad => ?notReady, fun hmay hv hs hst => ?faulted, fun hmay hv hs hst => ?_⟩
  case authority =>
    have hno : moveAuthority f.station h = false := Bool.eq_false_iff.mpr fun hm => hno (moveAuthority_iff.mp hm)
    exact hrefused _ (by simp [moveCode, hno]) (by decide) (by decide)
  all_goals have hmay : moveAuthority f.station h = true := moveAuthority_iff.mpr hmay
  case notReady =>
    have : (!s.imageValid || (s.ctx h).state = .unknown || !sensingUsable s h : Bool) = true := by
      rcases hbad with hbad | hbad | hbad <;> simp [hbad]
    exact hrefused _ (by simp only [moveCode, hmay, this]; rfl) (by decide) (by decide)
  case faulted => exact hrefused _ (by simp [moveCode, hmay, hv, hs, hst]) (by decide) (by decide)
  have hknown : (s.ctx h).state ≠ .unknown ∧ (s.ctx h).state ≠ .fault ∧ (s.ctx h).state ≠ .stopping ∧
      (s.ctx h).state ≠ .closing ∧ (s.ctx h).state ≠ .open ∧ (s.ctx h).state ≠ .opening := by
    rcases hst with hst | hst <;> simp [hst]
  obtain ⟨hunk, hfault, hstop, hclosing, hopen, hopening⟩ := hknown
  refine ⟨fun ht => ?tripped, fun ht hm => ?squall, fun ht hm hj hf start hstart hblock => ?blocked⟩
  case tripped => exact hrefused _ (by simp [moveCode, hmay, hv, hs, hunk, hfault, ht]) (by decide) (by decide)
  case squall => exact hrefused _ (by simp [moveCode, hmay, hv, hs, hunk, hfault, ht, hm]) (by decide) (by decide)
  case blocked =>
    have hbusy : moveBusy s h true = false := by simp [moveBusy, hj, hstop, hclosing]
    have halready : moveAlready s h true = false := by simp [moveAlready, hopen, hopening, hstart]
    exact hrefused _ (by simp [moveCode, hmay, hv, hs, hunk, hfault, ht, hm, hbusy, halready, hf, moveStart, hstart, hblock])
      (by decide) (by decide)

/-- Settles O32: each row of R77 in order; an acknowledged fault derives the hatch. -/
theorem acknowledgedFaultDerives : Obligations.AcknowledgedFaultDerives := by
  intro s f h ho hb hv hmay
  have hauth : ackAuthority f.station h = true := by
    rcases hmay with hmay | hmay | hmay | hmay <;> simp [ackAuthority, moveAuthority, hmay]
  have hvalid : (popped s).imageValid = true := hv
  have hexec : exec .ackFault s = .next (settle (
      if (s.ctx h).state != .fault then (popped s).push [.answer f .already 0]
      else if !sensingUsable s h || mismatchPresent s h then (popped s).push [.answer f .notReady 0]
      else takeUp (derive (ackValves ((popped s).push [.answer f .ok 0]) h) h .ack) h)) := by
    rw [show exec .ackFault s = _ from event_taken ho ho.ofKind]
    simp only [ackFaultRequest, hb, hatchOf_succ, hauth, hvalid, Bool.not_true, Bool.false_eq_true, if_false]
    rfl
  have hanswered : ∀ c, settle ((popped s).push [.answer f c 0]) =
      reply (popped s) f c [byteOf (h.val + 1), byteOf (s.ctx h).state.code, 0] := fun c => by
    rw [settle_answer ho.agenda, replyStanding, standingData_hatch (.inr (.inr ho.2.1)) hb]
    rfl
  rw [hexec]
  refine ⟨fun hst => ?already, fun hst hbad => ?notReady, fun hst hs hm hw => ?ok⟩
  case already => rw [if_pos (by simpa using hst), hanswered]
  case notReady =>
    rw [if_neg (by simpa using hst), if_pos, hanswered]
    rcases hbad with hbad | hbad
    · simp [hbad]
    · simp [mismatchPresent_iff.mpr hbad]
  case ok =>
    have hno : mismatchPresent s h = false :=
      Bool.eq_false_iff.mpr fun hp => by
        obtain ⟨c, hc⟩ := mismatchPresent_iff.mp hp
        exact hc (hm c)
    refine ⟨replyStanding (faultAcked ((popped s).push [.answer f .ok 0]) h).idle f .ok 0, ?_, ?ctx, ?channels, rfl, ?others, rfl, rfl, ?tx⟩
    · rw [if_neg (by simpa using hst), if_neg (by simp [hs, hno]), settle_ackFault ho.agenda hw]
    case ctx => exact faultAcked_ctx ((popped s).push [.answer f .ok 0]) h
    case channels => exact faultAcked_channel ((popped s).push [.answer f .ok 0]) h
    case others => exact faultAcked_others ((popped s).push [.answer f .ok 0]) h
    case tx =>
      have hdata := standingData_hatch (s := (faultAcked ((popped s).push [.answer f .ok 0]) h).idle) (c := .ok) (x := 0)
        (.inr (.inr ho.2.1)) hb
      exact congrArg (fun d => s.link.tx ++ [answerFrame f .ok d]) (hdata.trans (by
        rw [State.idle_ctx, faultAcked_ctx]
        rfl))

/-- Settles O36: each cleared mark leads to a test of R155 that finds nothing wanted. -/
theorem cancelClearsMarks : Obligations.CancelClearsMarks := by
  intro s f ho hv hr
  have hauth : squallAuthority f.station = true := by simpa [squallAuthority] using hr
  have hvalid : (popped s).imageValid = true := hv
  let marked := allHatches.filter fun h => (s.ctx h).mark
  have hexec : exec .cancelSquall s = .next (settle (if !s.squallActive then reply (popped s) f .already
      else marked.foldr (fun h s => clearMark s h) (reply (popped s) f .ok [byteOf marked.length]))) := by
    rw [show exec .cancelSquall s = _ from event_taken ho ho.ofKind]
    simp only [cancelRequest, hauth, hvalid, Bool.not_true, Bool.false_eq_true, if_false]
    rfl
  refine ⟨fun hno => ?none, fun hsome hquiet => ?some⟩
  case none =>
    have : s.squallActive = false := Bool.eq_false_iff.mpr fun ha => by
      obtain ⟨h, hm⟩ := squallActive_iff.mp ha
      rw [hno h] at hm
      cases hm
    rw [hexec, if_pos (by simp [this]), settle_reply _ _ _ _ ho.agenda]
  case some =>
    have hmem : ∀ h, h ∈ marked ↔ (s.ctx h).mark = true := fun h => by simp [marked, mem_allHatches]
    have hctx : ∀ h, (unmarked marked (reply (popped s) f .ok [byteOf marked.length])).ctx h = { s.ctx h with mark := false } := by
      intro h
      rw [unmarked_ctx, reply_ctx, popped_ctx]
      split
      · rfl
      · rename_i hn
        rw [hmem, Bool.not_eq_true] at hn
        rw [← hn]
    have htakes := Takes.inert (s := unmarked marked (reply (popped s) f .ok [byteOf marked.length])) (marked.map .reclampTest)
      fun t ht us => by
        obtain ⟨h, hh, rfl⟩ := List.mem_map.mp ht
        exact reclampTest_nothing (hquiet h ((hmem h).mp hh)).2
    rw [← foldr_clearMark (s := reply (popped s) f .ok [byteOf marked.length]) (hs := marked) (nodup_allHatches.filter _) fun h hh => ⟨(hmem h).mp hh, (hquiet h ((hmem h).mp hh)).1⟩] at htakes
    refine ⟨_, ?_, ?_, hctx, rfl⟩
    · rw [hexec, if_neg (by simp [squallActive_iff.mpr hsome]), htakes.settled ?_ ho.agenda]
      have : marked.length ≤ 9 := List.length_filter_le _ _
      simp only [List.length_map]
      omega
    · exact Bool.eq_false_iff.mpr fun ha => by
        obtain ⟨h, hm⟩ := squallActive_iff.mp ha
        rw [hctx h] at hm
        cases hm

/-- Settles O47: a closing writes the level alone, and a clearing takes up what is not there. -/
theorem closedLoopClears : Obligations.ClosedLoopClears := by
  intro s ⟨hr, ha⟩
  refine ⟨rfl, fun h n hn => ⟨?closes, fun hauto hlatch hopen hcount hw => ?clears, fun hno => ?idle⟩⟩
  case closes =>
    rw [show exec (.loopCloses n) s = .next (setLoop s n false) from rfl, setLoop, loopHatch_succ hn]
  all_goals rw [show exec (.clearingTimerExpiry h) s = _ from event_running hr]
  case clears =>
    obtain ⟨k, hk, htakes⟩ := Takes.takeUpUntripped_nothing (hs := [h]) (s := { s with stops := { s.stops with
      latch := s.stops.latch.set h false, clearing := s.stops.clearing.set h 0 } }) fun g hg => by
        rw [List.mem_singleton.mp hg]
        exact hw
    rw [if_pos (by simp [clearingCounts, hauto, hlatch, hopen, hcount]), clearLatch,
      htakes.settled (hk.trans (by simp)) ha]
  case idle =>
    rw [if_neg, settle_nil ha]
    simp only [clearingCounts, Bool.and_eq_true, decide_eq_true_eq, Bool.not_eq_true']
    rintro ⟨⟨⟨hauto, hlatch⟩, hopen⟩, hcount⟩
    rcases hno with h' | h' | h' | h'
    · simp [hauto] at h'
    · simp [hlatch] at h'
    · simp [hopen] at h'
    · omega

/-- Settles O48: the rows of R127 in order; a clearing takes up what is not there. -/
theorem ackTripClearsLatch : Obligations.AckTripClearsLatch := by
  intro s f ho hv
  have hvalid : (popped s).imageValid = true := hv
  have hexec : exec .ackTrip s = .next (settle (ackTripRequest f (popped s))) := event_taken ho ho.ofKind
  have hestop : ∀ w : State, f.byte 2 = 0 → ∀ c, replyStanding w f c 0 = reply w f c [0, if w.stops.estopLatch then 1 else 0] :=
    fun w hb c => by rw [replyStanding, standingData_estop ho.2.1 hb, byteOf_bit]
  have hhatch : ∀ (w : State) (h : Hatch), f.byte 2 = h.val + 1 → ∀ c, replyStanding w f c 0 = reply w f c
      [byteOf (h.val + 1), if w.stops.latch.get h then 1 else 0, if w.stops.estopLatch then 1 else 0] :=
    fun w h hb c => by rw [replyStanding, standingData_trip ho.2.1 hb, byteOf_bit, byteOf_bit]
  refine ⟨fun hb => ?estop, fun h hb => ?hatch⟩
  case estop =>
    have hrequest : ackTripRequest f (popped s) =
        if !ackTripAuthority f.station none then (popped s).push [.answer f .refusedAuthority 0]
        else if !s.stops.estopLatch then (popped s).push [.answer f .already 0]
        else if s.stops.estopOpen then (popped s).push [.answer f .notReady 0]
        else clearEstop ((popped s).push [.answer f .ok 0]) := by
      simp only [ackTripRequest, hvalid, hb, hatchOf_none (.inl rfl)]
      rfl
    rw [hexec, hrequest]
    refine ⟨fun hno => ?_, fun hmay => ⟨fun hl => ?_, fun hl hopen => ?_, fun hl hopen hw => ?_⟩⟩
    · rw [if_pos (by simpa [← ackTripAuthority_none] using hno), settle_answer ho.agenda, hestop _ hb]
      rfl
    all_goals rw [if_neg (by simpa [← ackTripAuthority_none] using hmay)]
    · rw [if_pos (by simp [hl]), settle_answer ho.agenda, hestop _ hb, show (popped s).stops.estopLatch = false from hl]
      rfl
    · rw [if_neg (by simp [hl]), if_pos hopen, settle_answer ho.agenda, hestop _ hb,
        show (popped s).stops.estopLatch = true from hl]
      rfl
    · rw [if_neg (by simp [hl]), if_neg (by simp [hopen])]
      refine congrArg Host.Outcome.next ((settle_cleared (f := f) (hs := allHatches) (by decide) ?_ fun g _ => ?_).trans ?_)
      · exact congrArg ([Task.answer f .ok 0] ++ ·) ho.agenda
      · exact hw g
      · rw [hestop _ hb]
        exact congrArg (reply · f .ok [0, 0]) (State.idle_of_nil (s := { popped s with
          stops := { s.stops with estopLatch := false } }) ho.agenda)
  case hatch =>
    have hrequest : ackTripRequest f (popped s) =
        if !ackTripAuthority f.station (some h) then (popped s).push [.answer f .refusedAuthority 0]
        else if !s.stops.latch.get h then (popped s).push [.answer f .already 0]
        else if s.stops.loopOpen.get h then (popped s).push [.answer f .notReady 0]
        else clearLatch ((popped s).push [.answer f .ok 0]) h := by
      have h9 : ¬ 9 < h.val + 1 := by omega
      simp only [ackTripRequest, hvalid, hb, h9, hatchOf_succ]
      rfl
    rw [hexec, hrequest]
    refine ⟨fun hno => ?_, fun hmay => ⟨fun hl => ?_, fun hl hopen => ?_, fun hl hopen hw => ?_⟩⟩
    · rw [if_pos (by simpa [← ackTripAuthority_some] using hno), settle_answer ho.agenda, hhatch _ h hb]
      rfl
    all_goals rw [if_neg (by simpa [← ackTripAuthority_some] using hmay)]
    · rw [if_pos (by simp [hl]), settle_answer ho.agenda, hhatch _ h hb, show (popped s).stops.latch.get h = false from hl]
      rfl
    · rw [if_neg (by simp [hl]), if_pos hopen, settle_answer ho.agenda, hhatch _ h hb,
        show (popped s).stops.latch.get h = true from hl]
      rfl
    · rw [if_neg (by simp [hl]), if_neg (by simp [hopen])]
      refine congrArg Host.Outcome.next ((settle_cleared (f := f) (hs := [h]) (by simp) ?_ fun g hg => ?_).trans ?_)
      · exact congrArg ([Task.answer f .ok 0] ++ ·) ho.agenda
      · rw [List.mem_singleton.mp hg]
        exact hw
      · rw [hhatch _ h hb]
        have hcleared : (s.stops.latch.set h false).get h = false := Tbl.get_set_self _ _ _
        simp only [State.idle, popped, State.push, hcleared, ho.2.2.2]
        rfl

end Sys2Proof.Orders
end

section
/-!
The Supply Monitor: run feedback, the timers of the pump sets and of the supply, ACK_PUMP, and the analog samples.
-/

namespace Sys2Proof.Machine
open Sys2Proof Sys2Proof.Safety

/-! ### Changes of the pump sets with no entry pending -/

theorem State.setPump_setPump (s : State) (k : PumpId) (p q : Pump) : (s.setPump k p).setPump k q = s.setPump k q := by
  simp [State.setPump, Tbl.set_set]

/-- What a change of pump sets does where the Arbiter holds no entry: the supply flags and timers, A, and the reduction timer. -/
structure FlowTaken (s t : State) : Prop where
  only : OnlyFlowChanges s t
  pumps : t.supply.pumps = s.supply.pumps
  noEntry : NoEntry t
  idle : t.arbiter.idleTimer = s.arbiter.idleTimer
  available : t.supply.available = availableNow t

namespace FlowTaken
variable {s t : State}

theorem pump (f : FlowTaken s t) (k : PumpId) : t.pump k = s.pump k := congrArg (·.get k) f.pumps

theorem agenda (f : FlowTaken s t) : t.agenda = s.agenda := by rw [f.only]

end FlowTaken

theorem allocate_noEntry {s : State} (hn : NoEntry s) : allocate s =
    { s with arbiter := { s.arbiter with reductionTimer := 0, reductionSet := none } } := allocate_empty hn.1 hn.2

/-- A change of pump sets is an allocation with the supply's flags, timers and A as the sets now give them. -/
theorem pumpsChanged_eq (s : State) : ∃ v : Supply, pumpsChanged s = allocate { s with supply := v } ∧
    v.pumps = s.supply.pumps ∧ v.overtemp = s.supply.overtemp ∧ (v.lowPressure = true → s.supply.lowPressure = true) ∧
    v.available = availableNow { s with supply := v } := by
  simp only [pumpsChanged, dropLowPressure]
  split
  · exact ⟨_, rfl, rfl, rfl, id, rfl⟩
  · exact ⟨_, rfl, rfl, rfl, fun h => (Bool.false_ne_true h).elim, rfl⟩

theorem pumpsChanged_noEntry {s : State} (hn : NoEntry s) : FlowTaken s (pumpsChanged s) := by
  obtain ⟨v, heq, hpumps, -, -, havail⟩ := pumpsChanged_eq s
  rw [heq, allocate_noEntry (s := { s with supply := v }) hn]
  exact ⟨rfl, hpumps, hn, rfl, havail⟩

/-- A pump set that changes with no entry pending: its record is written, A follows, and nothing is handed on. -/
theorem settle_setPump {s : State} {k : PumpId} {q : Pump} (ha : s.agenda = []) (hn : NoEntry s) :
    let t := settle (pumpsChanged (s.setPump k q))
    t.pump k = q ∧ OtherPumpsKept s t k ∧ OnlyFlowChanges s t ∧ NoEntry t ∧ t.supply.available = availableNow t := by
  have f : FlowTaken (s.setPump k q) (pumpsChanged (s.setPump k q)) := pumpsChanged_noEntry hn
  intro t
  have ht : t = pumpsChanged (s.setPump k q) := settle_nil (f.agenda.trans ha)
  rw [ht]
  exact ⟨(f.pump k).trans (State.pump_setPump s k q), fun i hi => (f.pump i).trans (State.pump_setPump_ne s q hi.symm), f.only, f.noEntry,
    f.available⟩

/-- A stop request to a RUNNING set (R83). -/
theorem stopPump_running {s : State} {k : PumpId} {p : Pump} (hr : p.state = .running) :
    stopPump (s.setPump k p) k = s.setPump k { p with
      state := if p.feedback then .stopping else if p.rated = 0 then .disabled else .off
      timer := 0 } := by
  simp [stopPump, hr, State.setPump_setPump]

theorem idleReached_setPump (s : State) (k : PumpId) (p : Pump) : idleReached (s.setPump k p) = idleReached s := rfl

/-! ### Changes of A -/

section
variable {s t : State}

theorem available_of_outer (h : t.outer = s.outer) : t.supply.available = s.supply.available :=
  congrArg (·.supply.available) h
theorem lowPressure_of_outer (h : t.outer = s.outer) : t.supply.lowPressure = s.supply.lowPressure :=
  congrArg (·.supply.lowPressure) h
theorem lowPressureSeen_of_outer (h : t.outer = s.outer) : t.supply.lowPressureSeen = s.supply.lowPressureSeen :=
  congrArg (·.supply.lowPressureSeen) h
theorem overtemp_of_outer (h : t.outer = s.outer) : t.supply.overtemp = s.supply.overtemp := congrArg (·.supply.overtemp) h
theorem overtempSeen_of_outer (h : t.outer = s.outer) : t.supply.overtempSeen = s.supply.overtempSeen :=
  congrArg (·.supply.overtempSeen) h
theorem recoveryTimer_of_outer (h : t.outer = s.outer) : t.supply.recoveryTimer = s.supply.recoveryTimer :=
  congrArg (·.supply.recoveryTimer) h

end

/-- A recompute of A leaves the supply's flags and timers, the holds, the sensing and the stores as they are. -/
theorem syncAvailable_outer (s : State) :
    (syncAvailable s).outer = { s with supply := { s.supply with available := availableNow s } }.outer := by
  simp only [syncAvailable]
  split
  · rename_i h
    rw [h]
  · exact allocate_outer _

/-- Bits of the supply flags (R190). -/
theorem supplyFlags_clear {s : State} (hl : s.supply.lowPressure = false) (ho : s.supply.overtemp = false)
    (hl' : s.supply.lowPressureSeen = false) (ho' : s.supply.overtempSeen = false) : supplyFlags s = 0 := by
  simp [supplyFlags, bit, hl, ho, hl', ho']

theorem alarm_of_lowPressureSeen {s : State} (h : s.supply.lowPressureSeen = true) : s.alarm = true := by
  simp [State.alarm, h]

/-! ### Where the supply and the Arbiter alone change -/

theorem onlyFlowChanges_iff {s t : State} :
    OnlyFlowChanges s t ↔ ∃ v a, t = { s with supply := v, arbiter := a } :=
  ⟨fun h => ⟨_, _, h⟩, fun ⟨v, a, h⟩ => by rw [h]; rfl⟩

theorem onlyFlowChanges_idle {s t : State} {ts : List Task} (ha : s.agenda = []) (h : OnlyFlowChanges (s.push ts) t) :
    OnlyFlowChanges s t.idle := by
  obtain ⟨v, a, rfl⟩ := onlyFlowChanges_iff.mp h
  refine onlyFlowChanges_iff.mpr ⟨v, a, ?_⟩
  simp only [State.idle, State.push, ← ha]

theorem onlyFlowChanges_reply {s t : State} (f : RxFrame) (c : Code) (d : List Byte) (h : OnlyFlowChanges s t) :
    OnlyFlowChanges (reply s f c d) (reply t f c d) := by
  obtain ⟨v, a, rfl⟩ := onlyFlowChanges_iff.mp h
  exact onlyFlowChanges_iff.mpr ⟨v, a, rfl⟩

/-! ### ACK_PUMP (R85) -/

section
variable {s : State} {f : RxFrame} {c : Code} {x : Nat}

theorem standingData_pump {k : PumpId} (hk : f.kind = 14) (hb : f.byte 2 = k.val + 1) : standingData s f c x =
    [byteOf (k.val + 1), byteOf (s.pump k).state.code,
      byteOf (if c = .notReady ∨ c = .already then tripCauseCode (s.pump k).cause else 0)] := by
  simp [standingData, hk, hb, pumpOf_succ, kindMove, kindHalt, kindAckFault, kindAckTrip, kindAckPump]

theorem standingData_flags (hk : f.kind = 14) (hb : f.byte 2 = 0) : standingData s f c x = [0, byteOf (supplyFlags s)] := by
  simp [standingData, hk, hb, kindMove, kindHalt, kindAckFault, kindAckTrip, kindAckPump]
  rfl

end

/-! ### Analog samples (R140 to R143) -/

theorem scaled_eq (lo hi : Int) (c : Nat) :
    scaled lo hi c = lo + (max 800 (min 4000 (c : Int)) - 800) * (hi - lo) / 3200 := by
  simp [scaled]

section
variable {lo hi : Int} {r : AnalogRec} {x : BitVec 12}

/-- An in-band code: the value of a channel without fault, and the count toward the end of a fault (R141, R142). -/
theorem sampled_inBand (h : 720 ≤ x.toNat ∧ x.toNat ≤ 4080) : r.sampled lo hi (some x) =
    if r.fault = false then { r with code := x.toNat, outRun := 0, value := some (scaled lo hi x.toNat) }
    else if 2 ≤ r.inRun then { r with code := x.toNat, fault := false, inRun := 0, value := some (scaled lo hi x.toNat) }
    else { r with code := x.toNat, inRun := r.inRun + 1 } := by
  cases hf : r.fault <;> simp [AnalogRec.sampled, h, hf]

/-- A code out of band, or a transfer that did not complete, leaves the value and counts toward a fault (R141). -/
theorem sampled_outOfBand {code : Option (BitVec 12)} (h : ∀ x, code = some x → ¬ (720 ≤ x.toNat ∧ x.toNat ≤ 4080)) :
    ∃ n, r.sampled lo hi code =
      if r.fault = true then { r with code := n, inRun := 0 }
      else if 2 ≤ r.outRun then { r with code := n, fault := true, faultCount := min 65535 (r.faultCount + 1), outRun := 0 }
      else { r with code := n, outRun := r.outRun + 1 } := by
  cases code with
  | none => exact ⟨r.code, by simp [AnalogRec.sampled, up16]⟩
  | some x =>
    have hx : ¬ (720 ≤ x.toNat ∧ x.toNat ≤ 4080) := h x rfl
    refine ⟨x.toNat, ?_⟩
    simp only [AnalogRec.sampled, Option.map_some, Option.getD_some, Option.isSome_some, Bool.true_and, Bool.and_eq_true,
      decide_eq_true_eq, hx, if_false, up16]

end

/-- What the test of a temperature writes (R92). -/
theorem testTemperature_spec (s : State) : ∃ hot seen, testTemperature s = { s with supply := { s.supply with
      overtemp := hot, overtempSeen := seen } } ∧
    (s.analog.temperature.reading = none → hot = s.supply.overtemp) ∧
    ∀ x, s.analog.temperature.reading = some x →
      (s.params.tHot < x → hot = true ∧ seen = true) ∧
      (x ≤ s.params.tHot - 5 → hot = false ∧ seen = s.supply.overtempSeen) ∧
      (s.params.tHot - 5 < x → x ≤ s.params.tHot → hot = s.supply.overtemp ∧ seen = s.supply.overtempSeen) := by
  simp only [testTemperature]
  split
  · rename_i hr
    exact ⟨_, _, rfl, fun _ => rfl, fun x hx => by rw [hr] at hx; cases hx⟩
  · rename_i y hr
    have hy : ∀ x, s.analog.temperature.reading = some x → x = y := fun x hx => Option.some.inj (hx.symm.trans hr)
    have hnone : s.analog.temperature.reading ≠ none := by simp [hr]
    split
    · refine ⟨true, true, rfl, fun h => absurd h hnone, fun x hx => ?_⟩
      rw [hy x hx]
      exact ⟨fun _ => ⟨rfl, rfl⟩, fun _ => by omega, fun _ _ => by omega⟩
    · split
      · refine ⟨false, _, rfl, fun h => absurd h hnone, fun x hx => ?_⟩
        rw [hy x hx]
        exact ⟨fun _ => by omega, fun _ => ⟨rfl, rfl⟩, fun _ _ => by omega⟩
      · refine ⟨_, _, rfl, fun h => absurd h hnone, fun x hx => ?_⟩
        rw [hy x hx]
        exact ⟨fun _ => by omega, fun _ => by omega, fun _ _ => ⟨rfl, rfl⟩⟩

end Sys2Proof.Machine

namespace Sys2Proof.Supply
open Sys2Proof Sys2Proof.Machine Sys2Proof.Safety

/-- Settles O49: one row of R82 to R84 for each state and level. -/
theorem pumpFeedbackAndTimers : Obligations.PumpFeedbackAndTimers := by
  intro s k ⟨hr, ha⟩ hn p becomes
  have hbecomes : ∀ {c q}, exec c s = .next (settle (pumpsChanged (s.setPump k q))) → becomes c q := fun h =>
    ⟨_, h, settle_setPump ha hn⟩
  have hfeedback : ∀ b, p.feedback ≠ b → exec (.runFeedbackChange k b) s =
      .next (settle (feedbackChanged (s.setPump k { p with feedback := b }) k)) := fun b hb => by
    rw [show exec (.runFeedbackChange k b) s = execRunFeedbackChange k b s from rfl, execRunFeedbackChange, if_neg hb, if_neg (by simp [hr])]
  have hempty : s.arbiter.isEmpty = true := by simp [Arbiter.isEmpty, hn.1, hn.2]
  have hlevel : ∀ b, p.feedback ≠ b → feedbackChanged (s.setPump k { p with feedback := b }) k = s.setPump k { p with feedback := b } →
      exec (.runFeedbackChange k b) s = .next (s.setPump k { p with feedback := b }) := fun b hb hc => by
    rw [hfeedback b hb, hc, settle_nil (show (s.setPump k _).agenda = [] from ha)]
  refine ⟨fun hf => ⟨fun hst => ⟨fun hidle => ?runs, fun hidle => ?stopped, ?failToStart⟩, fun hst => ?onWhileOff, fun hst hst' => ?levelOn⟩,
    fun hf => ⟨fun hst => ?lost, fun hst => ⟨?rests, ?failToStop⟩, fun hst hst' => ?levelOff⟩, fun hst => ?age⟩
  case runs =>
    refine hbecomes ((hfeedback true (by simp [hf])).trans ?_)
    have hnot : ∀ q, idleReached (s.setPump k q) = false := fun q => by
      rw [idleReached_setPump]
      simpa [idleReached, hempty] using hidle
    simp [feedbackChanged, hst, pumpRuns, State.setPump_setPump, hnot]
  case stopped =>
    refine hbecomes ((hfeedback true (by simp [hf])).trans ?_)
    have hreached : ∀ q, idleReached (s.setPump k q) = true := fun q => by
      rw [idleReached_setPump]
      simpa [idleReached, hempty] using hidle
    simp [feedbackChanged, hst, pumpRuns, State.setPump_setPump, hreached, stopPump_running]
  case failToStart =>
    refine hbecomes ((show exec (.failToStart k) s = _ from event_running hr).trans ?_)
    simp [show (s.pump k).state = .starting from hst, show (s.pump k).feedback = false from hf, tripPump, State.setPump_setPump, p]
  case onWhileOff =>
    exact hbecomes ((hfeedback true (by simp [hf])).trans (by simp [feedbackChanged, hst, tripPump, State.setPump_setPump]))
  case levelOn =>
    refine hlevel true (by simp [hf]) ?_
    simp only [feedbackChanged, State.pump_setPump]
    cases hp : p.state <;> simp_all
  case lost =>
    exact hbecomes ((hfeedback false (by simp [hf])).trans (by simp [feedbackChanged, hst, tripPump, State.setPump_setPump]))
  case rests =>
    exact hbecomes ((hfeedback false (by simp [hf])).trans (by simp [feedbackChanged, hst, restState, State.setPump_setPump]))
  case failToStop =>
    refine hbecomes ((show exec (.failToStop k) s = _ from event_running hr).trans ?_)
    simp [show (s.pump k).state = .stopping from hst, show (s.pump k).feedback = true from hf, tripPump, State.setPump_setPump, p]
  case levelOff =>
    refine hlevel false (by simp [hf]) ?_
    simp only [feedbackChanged, State.pump_setPump]
    cases hp : p.state <;> simp_all
  case age =>
    exact (show exec (.runAgeExpiry k) s = _ from quiet_running hr).trans (by rw [if_pos hst])

/-- Settles O50: the flags are written first and A follows them. -/
theorem pressureTimersSetFlags : Obligations.PressureTimersSetFlags := by
  intro s ⟨hr, ha⟩
  refine ⟨fun hc => ?low, fun hc => ?lowIdle, fun hc => ?recovery, fun hc => ?recoveryIdle⟩
  case low =>
    refine ⟨_, (show exec .lowTimerExpiry s = _ from event_running hr).trans (by rw [if_pos hc]), ?_⟩
    have ho := (settle_outer _).trans (syncAvailable_outer { s with supply := { s.supply with
      lowPressure := true, lowPressureSeen := true, lowTimer := 30 } })
    refine ⟨(lowPressure_of_outer ho).trans rfl, (lowPressureSeen_of_outer ho).trans rfl, (available_of_outer ho).trans ?_,
      (overtemp_of_outer ho).trans rfl, (overtempSeen_of_outer ho).trans rfl, ?_, (holds_of_outer ho).trans rfl, (store_of_outer ho).trans rfl⟩
    · simp [availableNow, availableFor]
    · exact alarm_of_lowPressureSeen (lowPressureSeen_of_outer ho)
  case lowIdle => exact (show exec .lowTimerExpiry s = _ from event_running hr).trans (by rw [if_neg (by simp [hc]), settle_nil ha])
  case recovery =>
    refine ⟨_, (show exec .recoveryTimerExpiry s = _ from event_running hr).trans (by rw [if_pos hc]), ?_⟩
    have ho := (settle_outer _).trans (syncAvailable_outer { s with supply := { s.supply with lowPressure := false, recoveryTimer := 0 } })
    exact ⟨(lowPressure_of_outer ho).trans rfl, (recoveryTimer_of_outer ho).trans rfl, (available_of_outer ho).trans rfl,
      (lowPressureSeen_of_outer ho).trans rfl, (overtemp_of_outer ho).trans rfl, (overtempSeen_of_outer ho).trans rfl,
      (holds_of_outer ho).trans rfl, (store_of_outer ho).trans rfl⟩
  case recoveryIdle =>
    exact (show exec .recoveryTimerExpiry s = _ from event_running hr).trans (by rw [if_neg (by simp [hc]), settle_nil ha])

/-- Settles O52: the rows of R85 in order; the answer carries the record after the event. -/
theorem ackPumpClears : Obligations.AckPumpClears := by
  intro s f ho hv hmay
  have hauth : ackPumpAuthority f.station = true := by simpa [ackPumpAuthority, or_assoc] using hmay
  have hvalid : (popped s).imageValid = true := hv
  refine ⟨fun k hb => ?set, fun hb => ?flags⟩
  case set =>
    have hrequest : ackPumpRequest f (popped s) =
        if (s.pump k).state != .tripped then (popped s).push [.answer f .already 0]
        else if (s.pump k).feedback then (popped s).push [.answer f .notReady 0]
        else pumpsChanged (((popped s).push [.answer f .ok 0]).setPump k
          { s.pump k with state := restState (s.pump k), cause := none }) := by
      simp only [ackPumpRequest, hvalid, hb, pumpOf_succ, hauth, Bool.not_true, Bool.false_eq_true, if_false]
      rfl
    have hexec : exec .ackPump s = .next (settle (ackPumpRequest f (popped s))) :=
      event_taken (isIt := isAckPump false) ho (by simp [isAckPump, ho.2.1, kindAckPump, hb])
    rw [hexec]
    refine ⟨fun hst => ?_, fun hst hf => ?_, fun hst hf hn => ?_⟩
    · rw [hrequest, if_pos (by simpa using hst), settle_answer ho.agenda, replyStanding, standingData_pump ho.2.1 hb]
      rfl
    · rw [hrequest, if_neg (by simp [hst]), if_pos hf, settle_answer ho.agenda, replyStanding, standingData_pump ho.2.1 hb,
        show ((popped s).pump k).state = .tripped from hst]
      rfl
    · have hrest : ackPumpRequest f (popped s) = pumpsChanged (((popped s).push [.answer f .ok 0]).setPump k
          { s.pump k with state := restState (s.pump k), cause := none }) := by
        rw [hrequest, if_neg (by simp [hst]), if_neg (by simp [hf])]
      have hflow := pumpsChanged_noEntry (s := ((popped s).push [.answer f .ok 0]).setPump k
        { s.pump k with state := restState (s.pump k), cause := none }) hn
      rw [hrest]
      generalize pumpsChanged _ = w at hflow ⊢
      have hpump := (hflow.pump k).trans (State.pump_setPump _ k _)
      rw [settle_answered (Takes.refl w) (by omega) (hflow.agenda.trans (congrArg ([Task.answer f .ok 0] ++ ·) ho.agenda))]
      refine ⟨_, rfl, hpump, fun i hi => (hflow.pump i).trans (State.pump_setPump_ne _ _ hi.symm), hflow.noEntry, ?_⟩
      rw [replyStanding, standingData_pump ho.2.1 hb, show (State.idle _).pump k = _ from hpump]
      exact onlyFlowChanges_reply f .ok _ (onlyFlowChanges_idle (s := popped s) (ts := [.answer f .ok 0]) ho.agenda hflow.only)
  case flags =>
    have hexec : exec .ackPumpFlags s = .next (ackFlagsRequest f (popped s)) :=
      quiet_taken (isIt := isAckPump true) ho (by simp [isAckPump, ho.2.1, kindAckPump, hb])
    have hdata : ∀ (w : State) (c : Code), replyStanding w f c 0 = reply w f c [0, byteOf (supplyFlags w)] := fun w c => by
      rw [replyStanding, standingData_flags ho.2.1 hb]
    have hrequest : ackFlagsRequest f (popped s) =
        if s.supply.lowPressure || s.supply.overtemp then reply (popped s) f .notReady [0, byteOf (supplyFlags s)]
        else if !s.supply.lowPressureSeen && !s.supply.overtempSeen then reply (popped s) f .already [0, byteOf (supplyFlags s)]
        else reply { popped s with supply := { s.supply with lowPressureSeen := false, overtempSeen := false } } f .ok
          [0, byteOf (supplyFlags { s with supply := { s.supply with lowPressureSeen := false, overtempSeen := false } })] := by
      simp only [ackFlagsRequest, hvalid, hauth, hdata, Bool.not_true, Bool.false_eq_true, if_false]
      rfl
    rw [hexec, hrequest]
    refine ⟨fun hl => ?_, fun hl ho' => ⟨fun hls hos => ?_, fun hs => ?_⟩⟩
    · rw [if_pos (by simpa using hl)]
    · rw [if_neg (by simp [hl, ho']), if_pos (by simp [hls, hos]), supplyFlags_clear hl ho' hls hos]
      rfl
    · rw [if_neg (by simp [hl, ho']), if_neg (by simpa [Decidable.imp_iff_not_or] using hs), supplyFlags_clear]
      · rfl
      all_goals first | exact hl | exact ho' | rfl

/-- Settles O60: each channel takes its sample by R141 and R142, and the supply follows the temperature. -/
theorem analogSamplesScale : Obligations.AnalogSamplesScale := by
  intro s codes ⟨hr, _⟩
  obtain ⟨hot, seen, htest, hnone, hsome⟩ := testTemperature_spec { s with analog := s.analog.sampled codes }
  have ho := ((settle_outer (takeSample codes s)).trans (syncReduction_outer _)).trans (syncAvailable_outer _)
  rw [htest] at ho
  have hanalog : (settle (takeSample codes s)).analog = s.analog.sampled codes := analog_of_outer ho
  have hovertemp : (settle (takeSample codes s)).supply.overtemp = hot := (overtemp_of_outer ho).trans rfl
  have hseen : (settle (takeSample codes s)).supply.overtempSeen = seen := (overtempSeen_of_outer ho).trans rfl
  refine ⟨_, event_running hr, (holds_of_outer ho).trans rfl, (junctions_of_outer ho).trans rfl, (store_of_outer ho).trans rfl, ?_, ?_, ?_, ?_⟩
  · rw [available_of_outer ho, hanalog, hovertemp]
    rfl
  · rw [hanalog, hovertemp]
    exact hnone
  · rw [hanalog, hovertemp, hseen]
    exact hsome
  · intro get pick lo hi hmem
    have hu : get (settle (takeSample codes s)).analog = (get s.analog).sampled lo hi (codes.map pick) := by
      rw [hanalog]
      simp only [List.mem_cons, Prod.mk.injEq, List.not_mem_nil, or_false] at hmem
      rcases hmem with ⟨rfl, rfl, rfl, rfl⟩ | ⟨rfl, rfl, rfl, rfl⟩ | ⟨rfl, rfl, rfl, rfl⟩ | ⟨rfl, rfl, rfl, rfl⟩ <;> rfl
    rw [hu]
    refine ⟨fun c hc hin => ?_, fun hout => ?_⟩
    · rw [hc, Option.map_some, sampled_inBand hin]
      refine ⟨fun hf => ?_, fun hf hrun => ?_, fun hf hrun => ?_⟩
      · simp [hf, scaled_eq]
      · simp [hf, Nat.not_le.mpr hrun]
      · simp [hf, hrun, scaled_eq]
    · obtain ⟨n, hn⟩ := sampled_outOfBand (lo := lo) (hi := hi) (r := get s.analog) (code := codes.map pick) fun x hx => by
        obtain ⟨c, hc, rfl⟩ := Option.map_eq_some_iff.mp hx
        exact hout c hc
      rw [hn]
      refine ⟨?_, fun hf => ?_, fun hf hrun => ?_, fun hf hrun => ?_⟩
      · split
        · rfl
        · split <;> rfl
      · simp [hf]
      · simp [hf, Nat.not_le.mpr hrun]
      · simp [hf, hrun]

end Sys2Proof.Supply
end

section
/-!
One allocation, where its scan is known, and the idle and reduction timers.
-/

namespace Sys2Proof.Machine
open Sys2Proof Sys2Proof.Safety

/-! ### One allocation, said by its scan -/

/-- The scan of an allocation: the collections it leaves and the blocked head it stops on (R101 to R103). -/
def allocScan (s : State) : Alloc × Option Entry :=
  let a := capacityShed s.supply.available s.arbiter.granted.length ⟨s.arbiter.pending, s.arbiter.granted, []⟩
  grantScan s.supply.available (a.pending.length + a.granted.length) a

/-- The part with the collections that a scan leaves, with their shares (R105). -/
def afterScan (s : State) (b : Alloc) : State :=
  { s with arbiter := { s.arbiter with
    pending := b.pending
    granted := withShares s.supply.available b.granted
    idleTimer := if b.pending.isEmpty && (withShares s.supply.available b.granted).isEmpty then s.arbiter.idleTimer else 0 } }

/-- The part with the set started that a start decision names. -/
def withStart (s : State) : Option PumpId → State
  | some k => startPump s k
  | none => s

theorem allocate_of_scan {s : State} {b : Alloc} {stopped : Option Entry} (h : allocScan s = (b, stopped)) :
    allocate s = (syncReduction (withStart (afterScan s b) (startDecision (afterScan s b) stopped))).push
      (outcomeTasks s.arbiter.granted (withShares s.supply.available b.granted) b.shedNow ++
        (if (startDecision (afterScan s b) stopped).isSome then [Task.allocate] else [])) := by
  have h' : grantScan s.supply.available _ _ = (b, stopped) := h
  simp only [allocate, h']
  rfl

/-- Grants that fit are not shed. -/
theorem capacityShed_fits {avail k : Nat} {a : Alloc} (h : sumM a.granted ≤ avail) : capacityShed avail k a = a := by
  cases k with
  | zero => rfl
  | succ k => simp [capacityShed, h]

/-- Where nothing is pending and the grants fit, a scan leaves the collections as they are. -/
theorem allocScan_settled {s : State} (hp : s.arbiter.pending = []) (hg : sumM s.arbiter.granted ≤ s.supply.available) :
    allocScan s = (⟨[], s.arbiter.granted, []⟩, none) := by
  simp only [allocScan, hp]
  rw [capacityShed_fits hg]
  cases s.arbiter.granted.length <;> simp [grantScan]

/-- The allocation of grants that fit hands on new shares alone. -/
theorem outcomeTasks_kept (avail : Nat) (gs : List Granted) :
    ∀ t ∈ outcomeTasks gs (withShares avail gs) [], ∃ h g, t = .reshare h g := by
  have hoff : ∀ x ∈ withShares avail gs, ∀ t ∈ handOff gs x, ∃ h g, t = .reshare h g := by
    intro x hx t ht
    obtain ⟨y, hy, rfl⟩ := List.mem_map.mp hx
    simp only [handOff] at ht
    split at ht
    · rename_i hnone
      exact absurd (by simp) (List.find?_eq_none.mp hnone y hy)
    · split at ht
      · split at ht
        · cases ht
        · exact ⟨_, _, List.mem_singleton.mp ht⟩
      · cases ht
  intro t ht
  simp only [outcomeTasks, List.flatMap_nil, List.filter_nil, List.nil_append, List.append_nil, List.mem_append,
    List.mem_flatMap] at ht
  rcases ht with ⟨x, hx, ht⟩ | ⟨u, ⟨x, hx, hu⟩, ht⟩
  · exact hoff x hx t ht
  · obtain ⟨h, g, rfl⟩ := hoff x hx u hu
    cases ht

/-- New shares change neither the supply nor the Arbiter. -/
theorem drain_reshares {s : State} (n : Nat) (hr : ∀ t ∈ s.agenda, ∃ h g, t = .reshare h g) :
    (drain n s).supply = s.supply ∧ (drain n s).arbiter = s.arbiter := by
  induction n generalizing s with
  | zero => exact ⟨rfl, rfl⟩
  | succ n ih =>
    cases ha : s.agenda with
    | nil => rw [drain_nil _ ha]; exact ⟨rfl, rfl⟩
    | cons t ts =>
      rw [drain_cons n ha]
      rw [ha] at hr
      obtain ⟨h, g, rfl⟩ := hr t List.mem_cons_self
      have hshare : (takeShare { s with agenda := ts } h g).agenda = ts ∧
          (takeShare { s with agenda := ts } h g).supply = s.supply ∧ (takeShare { s with agenda := ts } h g).arbiter = s.arbiter := by
        simp only [takeShare]
        repeat' split
        all_goals exact ⟨rfl, rfl, rfl⟩
      obtain ⟨hagenda, hsupply, harbiter⟩ := hshare
      obtain ⟨hs, har⟩ := ih (s := takeShare { s with agenda := ts } h g) fun t ht =>
        hr t (List.mem_cons_of_mem _ (hagenda ▸ ht))
      exact ⟨hs.trans hsupply, har.trans harbiter⟩

/-! ### The idle timer (R87) -/

/-- A pump set after a stop request (R83). -/
def Pump.stopped (p : Pump) : Pump :=
  { p with
    state := if p.feedback then .stopping else if p.rated = 0 then .disabled else .off
    timer := 0 }

/-- A RUNNING set is stopped, and any other stays. -/
def Pump.stoppedIfRunning (p : Pump) : Pump := if p.state = .running then p.stopped else p

theorem State.setPump_self (s : State) (k : PumpId) : s.setPump k (s.pump k) = s := by
  simp [State.setPump, State.pump]

theorem stopRunning_one (s : State) (k : PumpId) : (if (s.pump k).state = .running then stopPump s k else s) =
    s.setPump k (s.pump k).stoppedIfRunning := by
  by_cases h : (s.pump k).state = .running
  · simp [h, stopPump, Pump.stoppedIfRunning, Pump.stopped]
  · simp [h, Pump.stoppedIfRunning, State.setPump_self]

/-- Every RUNNING set is stopped (R87), and nothing else changes. -/
theorem stopRunning_spec (s : State) : OnlyFlowChanges s (stopRunning s) ∧ (stopRunning s).arbiter = s.arbiter ∧
    ∀ k, (stopRunning s).pump k = (s.pump k).stoppedIfRunning := by
  simp only [stopRunning, List.foldl_cons, List.foldl_nil, stopRunning_one]
  refine ⟨rfl, rfl, fun k => ?_⟩
  fin_cases k <;> simp [State.pump, State.setPump]

/-- The idle time reached with no entry pending stops the RUNNING sets, and hands nothing on. -/
theorem idleExpires_noEntry {s : State} (hn : NoEntry s) : OnlyFlowChanges s (idleExpires s) ∧ NoEntry (idleExpires s) ∧
    (idleExpires s).arbiter.idleTimer = s.params.idleTime ∧ ∀ k, (idleExpires s).pump k = (s.pump k).stoppedIfRunning := by
  obtain ⟨honly, harb, hpump⟩ := stopRunning_spec { s with arbiter := { s.arbiter with idleTimer := s.params.idleTime } }
  have hstopped : NoEntry (stopRunning { s with arbiter := { s.arbiter with idleTimer := s.params.idleTime } }) := by
    rw [NoEntry, harb]
    exact hn
  obtain ⟨v, a, heq⟩ := onlyFlowChanges_iff.mp honly
  simp only [idleExpires]
  split
  · exact ⟨onlyFlowChanges_iff.mpr ⟨v, a, heq⟩, hstopped, by rw [harb], hpump⟩
  · have f := pumpsChanged_noEntry hstopped
    obtain ⟨w, b, hw⟩ := onlyFlowChanges_iff.mp f.only
    refine ⟨onlyFlowChanges_iff.mpr ⟨w, b, by rw [hw, heq]⟩, f.noEntry, by rw [f.idle, harb], fun k => (f.pump k).trans (hpump k)⟩

/-! ### The one-pump reduction (R88) -/

/-- The set stands STOPPING, and the reduction timer at 0. -/
def Reduced (k : PumpId) (s : State) : Prop := (s.pump k).state = .stopping ∧ s.arbiter.reductionTimer = 0

/-- An allocation starts no set that is not OFF, and starts no reduction timer. -/
theorem reduced_allocate {s : State} {k : PumpId} (h : Reduced k s) : Reduced k (allocate s) := by
  obtain ⟨hstate, htimer⟩ := h
  rw [allocate_of_scan (Prod.mk.eta (p := allocScan s)).symm]
  generalize hd : startDecision _ _ = d
  have hstarted : ((withStart (afterScan s (allocScan s).1) d).pump k).state = .stopping ∧
      (withStart (afterScan s (allocScan s).1) d).arbiter.reductionTimer = 0 := by
    cases d with
    | none => exact ⟨hstate, htimer⟩
    | some j =>
      have hj : (s.pump j).state = .off := startDecision_off hd
      have hne : j ≠ k := fun h => by rw [h, hstate] at hj; cases hj
      exact ⟨by rw [withStart, startPump, State.pump_setPump_ne _ _ hne]; exact hstate, htimer⟩
  refine ⟨hstarted.1, ?_⟩
  simp only [syncReduction, State.push, hstarted.2, ite_self]

theorem reduced_handoffsKeep (k : PumpId) : HandoffsKeep fun _ => Reduced k where
  mono _ h := h
  onAgenda _ h := h
  onCtx _ h := h
  onState _ h := h
  onJudged _ h := h
  onReclampEvent _ _ _ h := h
  onSlot _ _ _ h := h
  onChannel _ h := h
  onChannels _ h := h
  onJog _ h := h
  onAllocate := reduced_allocate
  onQueueStep _ _ _ h := by
    simp only [queueEntry]
    split
    · exact h
    · refine ⟨h.1, ?_⟩
      have := h.2
      simp only [State.push]
      split <;> exact this
  onTakeLeave _ h := by
    simp only [takeLeave]
    split
    · exact reduced_allocate h
    · exact h
  onTakeReclass _ h := by
    simp only [takeReclass]
    repeat' split
    · exact h
    · exact h
    · exact reduced_allocate h
  onLink _ _ h := h

theorem highestRunning_state {s : State} {k : PumpId} (h : highestRunning s = some k) : (s.pump k).state = .running :=
  of_decide_eq_true (List.find?_some (p := fun k => decide ((s.supply.pumps.get k).state = .running)) h)

/-- The set that a reduction would stop is RUNNING, and what the others give covers every entry (R88). -/
theorem reductionFor_some {s : State} {k : PumpId} (h : reductionFor s = some k) : (s.pump k).state = .running ∧
    demandN s.arbiter ≤ availableFor s (supplyS s.supply.pumps - (s.pump k).rated) := by
  simp only [reductionFor] at h
  split at h
  · cases h
  · rename_i j hj
    split at h
    · rename_i hc
      cases h
      simp only [Bool.and_eq_true, decide_eq_true_eq] at hc
      exact ⟨highestRunning_state hj, hc.2⟩
    · cases h

/-- S without a RUNNING set (R93). -/
theorem supplyS_set {t : Tbl 3 Pump} {k : PumpId} {p : Pump} (hr : (t.get k).state = .running) (hp : p.state ≠ .running) :
    supplyS (t.set k p) = supplyS t - (t.get k).rated := by
  rw [supplyS_eq, supplyS_eq]
  fin_cases k <;> simp_all <;> omega

theorem sumM_le_demandN {a : Arbiter} (hm : ∀ g ∈ a.granted, g.entry.m ≤ g.entry.n) : sumM a.granted ≤ demandN a := by
  refine le_trans ?_ (Nat.le_add_left _ _)
  exact List.sum_le_sum fun g hg => hm g hg

/-- A is no lower where no flag is added (R95). -/
theorem availableFor_mono {s t : State} (hl : t.supply.lowPressure = true → s.supply.lowPressure = true)
    (hh : t.supply.overtemp = true → s.supply.overtemp = true) (hi : t.imageValid = s.imageValid) (hd : derate t = derate s)
    (hp : t.params = s.params) (x : Nat) : availableFor s x ≤ availableFor t x := by
  simp only [availableFor, hi, hd, hp]
  split
  · exact Nat.zero_le _
  · rename_i hc
    rw [if_neg]
    simp only [Bool.or_eq_true, not_or] at hc ⊢
    exact ⟨⟨fun h => hc.1.1 (hl h), fun h => hc.1.2 (hh h)⟩, hc.2⟩

/-- Where nothing is pending, the reduction stops its one set: the grants still fit, and only shares change. -/
theorem settle_reduction {s : State} {k : PumpId} {p : Pump} (ha : s.agenda = []) (hl : FlowLawful s) (hp : s.arbiter.pending = [])
    (hr : reductionFor s = some k) (hstop : p.state ≠ .running) :
    (settle (pumpsChanged (s.setPump k p))).supply.pumps = s.supply.pumps.set k p := by
  obtain ⟨hrun, hdemand⟩ := reductionFor_some hr
  obtain ⟨v, heq, hpumps, hhot, hlow, havail⟩ := pumpsChanged_eq (s.setPump k p)
  have hm : ∀ g ∈ s.arbiter.granted, g.entry.m ≤ g.entry.n := fun g hg =>
    hl.2.2.1 g.entry (List.mem_append_right _ (List.mem_map_of_mem hg))
  have hfits : sumM s.arbiter.granted ≤ v.available := by
    refine (sumM_le_demandN hm).trans (hdemand.trans ?_)
    rw [havail, availableNow, show ({ s.setPump k p with supply := v } : State).supply.pumps = _ from hpumps,
      show (s.setPump k p).supply.pumps = s.supply.pumps.set k p from rfl, supplyS_set hrun hstop]
    exact availableFor_mono (s := s) (t := { s.setPump k p with supply := v }) hlow
      (fun h => (show v.overtemp = s.supply.overtemp from hhot) ▸ h) rfl rfl rfl _
  have hscan := allocScan_settled (s := { s.setPump k p with supply := v }) hp hfits
  rw [heq, allocate_of_scan hscan]
  have hreshares := outcomeTasks_kept v.available s.arbiter.granted
  rw [settle, (drain_reshares 4096 fun t ht => ?_).1]
  · exact hpumps
  · exact hreshares t (by simpa [startDecision, withStart, afterScan, syncReduction, State.push, ha] using ht)

end Sys2Proof.Machine

namespace Sys2Proof.Supply
open Sys2Proof Sys2Proof.Machine Sys2Proof.Safety

/-- Settles O51: the stopped sets are written, and what is handed on starts none of them. -/
theorem idleAndReductionStopPumps : Obligations.IdleAndReductionStopPumps := by
  intro s ⟨hr, ha⟩
  refine ⟨fun hn hpos hlt => ?idle, fun hno => ?idleNot, fun k hk hset hpos hf => ?reduction, fun hno => ?reductionNot⟩
  case idle =>
    obtain ⟨honly, hentry, htimer, hpump⟩ := idleExpires_noEntry hn
    have hempty : s.arbiter.isEmpty = true := by simp [Arbiter.isEmpty, hn.1, hn.2]
    refine ⟨idleExpires s, ?_, htimer, hentry, honly, hpump⟩
    rw [show exec .idleTimerExpiry s = _ from event_running hr, if_pos (by simp [hempty, hpos, hlt]), settle_nil]
    rw [honly]
    exact ha
  case idleNot =>
    rw [show exec .idleTimerExpiry s = _ from event_running hr, if_neg, settle_nil ha]
    simp only [Bool.and_eq_true, decide_eq_true_eq, not_and]
    intro hempty hpos
    simp only [Arbiter.isEmpty, Bool.and_eq_true, List.isEmpty_iff] at hempty
    rcases hno with hno | hno
    · exact absurd hempty hno
    · omega
  case reduction =>
    obtain ⟨hrun, -⟩ := reductionFor_some hk
    obtain ⟨w, hw⟩ : ∃ w : State, w = { s with arbiter := { s.arbiter with reductionTimer := 0 } } := ⟨_, rfl⟩
    have hstop : stopPump w k = w.setPump k { s.pump k with state := .stopping, timer := 0 } := by
      have hpump : w.pump k = s.pump k := by rw [hw]; rfl
      simp [stopPump, hpump, hrun, hf]
    have hexec : exec .reductionTimerExpiry s = .next (settle (pumpsChanged (stopPump w k))) := by
      rw [show exec .reductionTimerExpiry s = execReductionTimerExpiry s from rfl, execReductionTimerExpiry, event_running hr]
      simp only [hk, hset, hpos, and_self, if_true, hw]
    rw [hexec, hstop]
    obtain ⟨v, heq, hpumps, hhot, -⟩ := pumpsChanged_eq (w.setPump k { s.pump k with state := .stopping, timer := 0 })
    have hkept : Reduced k (settle (pumpsChanged (w.setPump k { s.pump k with state := .stopping, timer := 0 }))) := by
      refine (reduced_handoffsKeep k).onSettle (S := ∅) ?_
      rw [heq]
      exact reduced_allocate ⟨by rw [State.pump, hpumps]; simp [State.setPump], by rw [hw]; rfl⟩
    have houter : (settle (pumpsChanged (w.setPump k { s.pump k with state := .stopping, timer := 0 }))).outer =
        { w.setPump k { s.pump k with state := .stopping, timer := 0 } with supply := v }.outer := by
      rw [settle_outer, heq, allocate_outer]
    refine ⟨_, rfl, hkept.1, ?line, hkept.2, (overtemp_of_outer houter).trans ?hot, (holds_of_outer houter).trans ?holds,
      (store_of_outer houter).trans ?store, fun hl hp => ?only⟩
    case line =>
      rw [State.startLine, show (settle _).supply.pumps.get k = (settle _).pump k from rfl, hkept.1]
      simp
    case hot => rw [hhot, hw]; rfl
    case holds => rw [hw]; rfl
    case store => rw [hw]; rfl
    case only =>
      have hset : (settle (pumpsChanged (w.setPump k { s.pump k with state := .stopping, timer := 0 }))).supply.pumps =
          s.supply.pumps.set k { s.pump k with state := .stopping, timer := 0 } := by
        rw [settle_reduction (s := w) (by rw [hw]; exact ha) (by rw [hw]; exact hl) (by rw [hw]; exact hp) (by rw [hw]; exact hk) (fun h => by cases h), hw]
      exact ⟨by rw [State.pump, hset, Tbl.get_set_self], fun i hi => by rw [State.pump, hset, Tbl.get_set_ne _ _ hi.symm]; rfl⟩
  case reductionNot =>
    rw [show exec .reductionTimerExpiry s = execReductionTimerExpiry s from rfl, execReductionTimerExpiry, event_running hr]
    rcases hno with hno | hno
    · simp only [hno, settle_nil ha]
    · split
      · rw [if_neg (by simp [hno]), settle_nil ha]
      · rw [settle_nil ha]

end Sys2Proof.Supply
end

section
/-!
One entry alone in the Arbiter: it is granted at once where its M fits, and otherwise waits while a pump set is started.
-/

namespace Sys2Proof.Machine
open Sys2Proof Sys2Proof.Safety

/-! ### The scan of one entry (R102) -/

section
variable {s : State} {e : Entry}

theorem allocScan_grants (hp : s.arbiter.pending = [e]) (hg : s.arbiter.granted = []) (hf : e.m ≤ s.supply.available) :
    allocScan s = (⟨[], [⟨{ e with shed := false }, ⟨e.m, none⟩⟩], []⟩, none) := by
  simp [allocScan, hp, hg, capacityShed, grantScan, Alloc.fits, Alloc.grantOne, sumM, hf]

theorem allocScan_blocked (hp : s.arbiter.pending = [e]) (hg : s.arbiter.granted = []) (hf : s.supply.available < e.m) :
    allocScan s = (⟨[e], [], []⟩, some e) := by
  have hn : ¬ e.m ≤ s.supply.available := by omega
  simp [allocScan, hp, hg, capacityShed, grantScan, Alloc.fits, preempt, sumM, hn]

/-- The share of the one grant: the smaller of N and A (R105). -/
theorem withShares_alone {avail : Nat} {g : Granted} (hf : g.entry.m ≤ avail) (hmn : g.entry.m ≤ g.entry.n) :
    withShares avail [g] = [{ g with grant := ⟨min g.entry.n avail, rollOf g.entry (min g.entry.n avail)⟩ }] := by
  have hshare : shareOf avail [g] g.entry = min g.entry.n avail := by
    simp only [shareOf, sumM, sumE, List.map_cons, List.map_nil, List.sum_cons, List.sum_nil, Nat.add_zero]
    split
    · omega
    · split
      · omega
      · rename_i hne _
        rw [Nat.mul_div_cancel _ (Nat.pos_of_ne_zero hne)]
        omega
  simp [withShares, hshare]

/-- What the one new grant hands on (R107). -/
def grantTasks (e : Entry) (g : Grant) : List Task :=
  match e.demand with
  | .step _ => [.grant e.hatch g, .activated e.hatch]
  | .jog _ => [.jogGrant]

/-- An allocation grants the one entry that fits. -/
theorem allocate_grants (hp : s.arbiter.pending = [e]) (hg : s.arbiter.granted = []) (hf : e.m ≤ s.supply.available)
    (hmn : e.m ≤ e.n) (hs : e.shed = false) : ∃ a : Arbiter,
      let g : Grant := ⟨min e.n s.supply.available, rollOf e (min e.n s.supply.available)⟩
      allocate s = (withArbiter s a).push (grantTasks e g) ∧ a.pending = [] ∧ a.granted = [⟨e, g⟩] := by
  have he : { e with shed := false } = e := by rw [← hs]
  have hshares := withShares_alone (avail := s.supply.available) (g := ⟨e, ⟨e.m, none⟩⟩) hf hmn
  rw [allocate_of_scan (allocScan_grants hp hg hf), he, hshares]
  have hnone : ∀ u, startDecision u none = none := fun u => by simp [startDecision]
  rw [hnone, hg]
  refine ⟨(syncReduction (afterScan s ⟨[], [⟨e, ⟨e.m, none⟩⟩], []⟩)).arbiter, ?_, rfl, hshares⟩
  simp only [Option.isSome_none, Bool.false_eq_true, if_false, List.append_nil]
  cases hd : e.demand <;> simp [outcomeTasks, handOff, afterHandOff, grantTasks, hd] <;> rfl

/-- An allocation leaves the one entry that does not fit, and may start a pump set (R104). -/
theorem allocate_blocked (hp : s.arbiter.pending = [e]) (hg : s.arbiter.granted = []) (hf : s.supply.available < e.m) :
    ∃ a : Arbiter, allocate s = (withArbiter (withStart s (startDecision s (some e))) a).push
        (if (startDecision s (some e)).isSome then [.allocate] else []) ∧ a.pending = [e] ∧ a.granted = [] := by
  rw [allocate_of_scan (allocScan_blocked hp hg hf)]
  have hd : startDecision (afterScan s ⟨[e], [], []⟩) (some e) = startDecision s (some e) := rfl
  rw [hd, hg]
  cases startDecision s (some e) with
  | none => exact ⟨_, rfl, rfl, rfl⟩
  | some k => exact ⟨_, rfl, rfl, rfl⟩

end

/-! ### Joining an empty Arbiter (R96, R97) -/

/-- The entry of a join (R96). -/
def newJoin (s : State) (h : Hatch) (d : Demand) (c : Cls) (n m : Nat) : Entry := ⟨h, d, c, n, m, s.arbiter.counter + 1, false⟩

theorem has_noEntry {a : Arbiter} (hp : a.pending = []) (hg : a.granted = []) (h : Hatch) : a.has h = false := by
  simp [Arbiter.has, hp, hg]

theorem queueEntry_alone {s : State} (h : Hatch) (d : Demand) (c : Cls) (n m : Nat) (hn : NoEntry s)
    (hc : s.arbiter.counter < 65535) : ∃ a : Arbiter, queueEntry s h d c n m = (withArbiter s a).push [.allocate] ∧
      a.pending = [newJoin s h d c n m] ∧ a.granted = [] := by
  have hnot : ¬ 65535 ≤ s.arbiter.counter := by omega
  simp only [queueEntry, has_noEntry hn.1 hn.2, hnot, Bool.false_eq_true, if_false]
  exact ⟨_, rfl, by simp [hn.1, insertEntry, newJoin], hn.2⟩

/-- The set that a start request names is STARTING, and no other changes (R82, R86). -/
theorem withStart_pump (s : State) (e : Entry) (k : PumpId) : ((withStart s (startDecision s (some e))).pump k).state =
    if startDecision s (some e) = some k then .starting else (s.pump k).state := by
  cases startDecision s (some e) with
  | none => simp [withStart]
  | some j =>
    by_cases hj : j = k
    · subst hj
      simp [withStart, startPump]
    · simp [withStart, startPump, hj]

theorem anyPump_iff {s : State} {st : PumpState} : anyPump s st = true ↔ ∃ k, (s.pump k).state = st := by
  simp only [anyPump, List.any_eq_true, decide_eq_true_eq]
  refine ⟨fun ⟨p, hp, hst⟩ => ?_, fun ⟨k, hst⟩ => ⟨_, List.getElem_mem _, hst⟩⟩
  obtain ⟨i, hi, rfl⟩ := List.getElem_of_mem hp
  exact ⟨⟨i, by rw [s.supply.pumps.len] at hi; exact hi⟩, hst⟩

/-- A join that does not fit waits alone; the allocation that follows a start finds a set STARTING and starts no other. -/
theorem queueEntry_waits {s : State} (h : Hatch) (d : Demand) (c : Cls) (n m : Nat) (hn : NoEntry s)
    (hc : s.arbiter.counter < 65535) (hf : s.supply.available < m) : ∃ (a : Arbiter) (k : Nat), k ≤ 2 ∧
      Takes k (queueEntry s h d c n m) (withArbiter (withStart s (startDecision s (some (newJoin s h d c n m)))) a) ∧
      a.pending = [newJoin s h d c n m] ∧ a.granted = [] := by
  obtain ⟨a, hq, hp, hg⟩ := queueEntry_alone h d c n m hn hc
  obtain ⟨b, hb, hbp, hbg⟩ := allocate_blocked (s := withArbiter s a) hp hg hf
  have hfirst : Takes 1 (queueEntry s h d c n m) (allocate (withArbiter s a)) := by
    rw [hq]
    exact Takes.push (withArbiter s a) .allocate []
  rw [hb] at hfirst
  have hsame : startDecision (withArbiter s a) (some (newJoin s h d c n m)) = startDecision s (some (newJoin s h d c n m)) := rfl
  rw [hsame] at hfirst
  cases hd : startDecision s (some (newJoin s h d c n m)) with
  | none =>
    rw [hd] at hfirst
    exact ⟨b, 1, by omega, hfirst, hbp, hbg⟩
  | some k =>
    rw [hd] at hfirst
    obtain ⟨x, hx, hxp, hxg⟩ := allocate_blocked (s := withArbiter (startPump s k) b) hbp hbg hf
    have hstarting : anyPump (withArbiter (startPump s k) b) .starting = true :=
      anyPump_iff.mpr ⟨k, congrArg (·.state) (State.pump_setPump s k _)⟩
    have hnone : startDecision (withArbiter (startPump s k) b) (some (newJoin s h d c n m)) = none := by
      simp [startDecision, hstarting]
    rw [hnone] at hx
    refine ⟨x, 2, le_rfl, hfirst.trans ?_, hxp, hxg⟩
    have := Takes.push (withArbiter (startPump s k) b) .allocate []
    rw [show runTask .allocate ((withArbiter (startPump s k) b).push []) = allocate (withArbiter (startPump s k) b) from rfl, hx] at this
    exact this

/-- A join that fits is granted at once. -/
theorem queueEntry_granted {s : State} (h : Hatch) (d : Demand) (c : Cls) (n m : Nat) (hn : NoEntry s)
    (hc : s.arbiter.counter < 65535) (hf : m ≤ s.supply.available) (hmn : m ≤ n) : ∃ a : Arbiter,
      let e := newJoin s h d c n m
      let g : Grant := ⟨min n s.supply.available, rollOf e (min n s.supply.available)⟩
      Takes 1 (queueEntry s h d c n m) ((withArbiter s a).push (grantTasks e g)) ∧ a.pending = [] ∧ a.granted = [⟨e, g⟩] := by
  obtain ⟨a, hq, hp, hg⟩ := queueEntry_alone h d c n m hn hc
  obtain ⟨b, hb, hbp, hbg⟩ := allocate_grants (s := withArbiter s a) hp hg hf hmn rfl
  refine ⟨b, ?_, hbp, hbg⟩
  rw [hq]
  have := Takes.push (withArbiter s a) .allocate []
  rw [show runTask .allocate ((withArbiter s a).push []) = allocate (withArbiter s a) from rfl, hb] at this
  exact this

end Sys2Proof.Machine
end

section
/-!
The service jog (R121 to R124).
-/

namespace Sys2Proof.Machine
open Sys2Proof Sys2Proof.Safety

theorem HatchChannels.set_set (t : HatchChannels) (c : Channel) (x y : ChannelRec) : (t.set c x).set c y = t.set c y := by
  cases c <;> rfl

theorem HatchChannels.set_get_self (t : HatchChannels) (c : Channel) : t.set c (t.get c) = t := by
  cases c <;> rfl

theorem State.setChannel_setChannel (s : State) (h : Hatch) (c : Channel) (x y : ChannelRec) :
    (s.setChannel h c x).setChannel h c y = s.setChannel h c y := by
  simp [State.setChannel, Tbl.upd, Tbl.set_set, HatchChannels.set_set]

theorem State.channel_setChannel_ne (s : State) {h g : Hatch} {c d : Channel} (r : ChannelRec) (hne : (g, d) ≠ (h, c)) :
    (s.setChannel h c r).channel g d = s.channel g d := by
  simp only [State.channel, State.setChannel]
  by_cases hg : h = g
  · subst hg
    have hd : c ≠ d := fun hd => hne (by rw [hd])
    simp [hd]
  · simp [hg]

/-! ### Start and renewal -/

theorem writeJog_master {s : State} {j : Jog} (hj : s.drive.jog = some j) (hm : (s.channel j.hatch j.channel).jogMaster = true) :
    writeJog s = s.setChannel j.hatch j.channel { s.channel j.hatch j.channel with target := jogTarget s j } := by
  simp [writeJog, hj, hm]

theorem jogTarget_active {s : State} {j : Jog} (hp : j.phase = .active) :
    jogTarget s j = ⟨j.dir, if endStop s j then 0 else j.command⟩ := by
  cases he : endStop s j <;> simp [jogTarget, hp, he]

/-- The grant of a waiting jog makes it the master of its channel, with its target written (R122). -/
theorem takeJogGrant_queued {s : State} {j : Jog} (hj : s.drive.jog = some j) (hp : j.phase = .queued) : takeJogGrant s =
    (s.setJog (some { j with phase := .active })).setChannel j.hatch j.channel
      { s.channel j.hatch j.channel with jogMaster := true, target := ⟨j.dir, if endStop s j then 0 else j.command⟩ } := by
  simp only [takeJogGrant, hj, hp, decide_true, Bool.true_or, if_true]
  rw [writeJog_master (j := { j with phase := .active }) rfl (by rw [State.channel_setChannel]), State.channel_setChannel,
    State.setChannel_setChannel, jogTarget_active rfl]
  rfl

theorem jogTarget_ending {s : State} {j : Jog} (hp : j.phase = .ending) : jogTarget s j = ⟨j.dir, 0⟩ := by
  simp [jogTarget, hp]

/-- A JOG that passes rows 5 to 11 of R121 is answered and queued. -/
theorem startJog_accepted {s : State} {f : RxFrame} {h : Hatch} {c : Channel} {d : Dir} {n : Nat} (hj : s.drive.jog = none)
    (hst : (s.ctx h).state = .held ∨ (s.ctx h).state = .fault) (ht : s.tripped h = false) (hr : jogNotReady s h c = false)
    (hb : isBlocked s h (.jog c) = false) (h0 : n ≠ 0) : startJog s f h c d n =
      queueEntry ((reply s f .accepted (clampedBytes n)).setJog (some ⟨h, c, d, min n 300, .queued, 500⟩)) h (.jog c) .normal 40 40 := by
  rcases hst with hst | hst <;>
    simp [startJog, hj, hst, HatchState.isMoving, ht, hr, hb, h0, jogMaximum, jogTime]

/-- A JOG or a renewal that passes rows 1 to 4 of R121 with KEY_SERVICE closed is taken. -/
theorem jogChecked_taken {take : State → RxFrame → Hatch → Channel → Dir → Nat → State} {f : RxFrame} {s : State} {h : Hatch}
    {c : Channel} {d : Dir} (hv : s.imageValid = true) (hh : f.byte 2 = h.val + 1) (hc : channelOf (f.byte 3) = some c)
    (hd : dirOf (f.byte 4) = some d) (hr : roleOf f.station = .service) (hmax : f.word 5 ≤ 1000) :
    jogChecked true take f s = take { s with keyService := true } f h c d (f.word 5) := by
  have hn : ¬ 1000 < f.word 5 := by omega
  have hvalid : ({ s with keyService := true } : State).imageValid = true := hv
  simp [jogChecked, hvalid, jogHatch, hh, hatchOf_succ, jogChannel, hc, hr, jogDir, hd, jogCommand, hn]

/-! ### The end of a jog (R123) -/

/-- The part with the jog over: its channel back at its Sequencer's target, and no record. -/
def jogOver (s : State) (j : Jog) : State :=
  (if (s.channel j.hatch j.channel).jogMaster then
    s.setChannel j.hatch j.channel { s.channel j.hatch j.channel with
      jogMaster := false
      target := (s.channel j.hatch j.channel).sequencerTarget }
  else s).setJog none

/-- The part with the jog ENDING, its target at command 0. -/
def jogEnding (s : State) (j : Jog) (timer : Nat) : State :=
  (s.setJog (some { j with phase := .ending, timer := timer })).setChannel j.hatch j.channel
    { s.channel j.hatch j.channel with target := ⟨j.dir, 0⟩ }

theorem jogRelease_eq {s : State} {j : Jog} (hj : s.drive.jog = some j) :
    jogRelease s = (jogOver s j).push [.leave j.hatch, .squallTry j.hatch, .reclampTest j.hatch] := by
  simp only [jogRelease, hj]
  rfl

theorem jogOver_fields (s : State) (j : Jog) : (jogOver s j).hatches = s.hatches ∧ (jogOver s j).table = s.table ∧
    (jogOver s j).supply = s.supply ∧ (jogOver s j).link = s.link ∧ (jogOver s j).arbiter = s.arbiter ∧
    (jogOver s j).agenda = s.agenda ∧ (jogOver s j).outer = s.outer := by
  refine ⟨?_, ?_, ?_, ?_, ?_, ?_, ?_⟩ <;> simp only [jogOver, State.setJog_hatches, setJog_outer]
  all_goals split
  all_goals first | rfl | exact setChannel_outer s rfl

/-- A released jog withdraws its entry, and nothing is there to be taken up. -/
theorem settle_jogRelease {s : State} {j : Jog} (hj : s.drive.jog = some j) (ha : s.agenda = []) (ho : OnlyEntryOf s j.hatch)
    (hw : NothingWaits s j.hatch) : ∃ a : Arbiter, settle (jogRelease s) = withArbiter (jogOver s j) a ∧
      a.pending = [] ∧ a.granted = [] := by
  obtain ⟨hhatches, htable, -, -, harb, hagenda, -⟩ := jogOver_fields s j
  have htakes := Takes.push (jogOver s j) (.leave j.hatch) [.squallTry j.hatch, .reclampTest j.hatch]
  obtain ⟨a, ha', hp, hg⟩ := takeLeave_empties (s := (jogOver s j).push [.squallTry j.hatch, .reclampTest j.hatch])
    (h := j.hatch) (by simpa only [OnlyEntryOf, State.push, harb] using ho)
  rw [show runTask (.leave j.hatch) _ = takeLeave _ j.hatch from rfl, ha'] at htakes
  have hwaits : NothingWaits (withArbiter (jogOver s j) a) j.hatch := nothingWaits_congr hhatches htable hw
  have hrest := Takes.takeUps_nothing (hs := [j.hatch]) (s := withArbiter (jogOver s j) a) fun g hg => by
    rw [List.mem_singleton.mp hg]
    exact hwaits
  refine ⟨a, ?_, hp, hg⟩
  rw [jogRelease_eq hj]
  exact (htakes.trans hrest).settled (by simp) (hagenda.trans ha)

/-- The channel of a jog that ends while its channel is under it takes command 0 (R123). -/
theorem writeJog_ending {s : State} {j : Jog} (hm : (s.channel j.hatch j.channel).jogMaster = true) :
    writeJog (s.setJog (some { j with phase := .ending })) = jogEnding s j j.timer := by
  rw [writeJog_master (s := s.setJog (some { j with phase := .ending })) (j := { j with phase := .ending }) rfl hm,
    jogTarget_ending rfl]
  rfl

theorem jogEnding_outer (s : State) (j : Jog) (n : Nat) : (jogEnding s j n).outer = s.outer := by
  rw [jogEnding, setChannel_outer _ (by rfl), setJog_outer]

/-- The end of a jog does not ask for the phase or the timer of its record. -/
theorem jogOver_setJog (s : State) (j : Jog) (p : JogPhase) (n : Nat) :
    jogOver (s.setJog (some { j with phase := p, timer := n })) { j with phase := p, timer := n } = jogOver s j := by
  simp only [jogOver]
  have hsame : (s.setJog (some { j with phase := p, timer := n })).channel j.hatch j.channel = s.channel j.hatch j.channel := rfl
  rw [hsame]
  split <;> rfl

/-- A waiting jog, and one whose channel is at rest already, is over at its end (R123). -/
theorem settle_jogEnd_over {s : State} {j : Jog} (hj : s.drive.jog = some j) (ha : s.agenda = []) (ho : OnlyEntryOf s j.hatch)
    (hw : NothingWaits s j.hatch)
    (hphase : j.phase = .queued ∨ (s.channel j.hatch j.channel).applied = 0 ∧
      (j.phase = .shed ∨ j.phase = .active ∧ (s.channel j.hatch j.channel).jogMaster = true)) :
    ∃ a : Arbiter, settle (jogEnd s) = withArbiter (jogOver s j) a ∧ a.pending = [] ∧ a.granted = [] := by
  obtain hq | ⟨hrest, hs | ⟨hact, hm⟩⟩ := hphase
  · rw [show jogEnd s = jogRelease s by simp [jogEnd, hj, hq]]
    exact settle_jogRelease hj ha ho hw
  · rw [show jogEnd s = jogRelease (s.setJog (some { j with phase := .ending })) by
      simp [jogEnd, hj, hs, State.channel, State.setJog] at hrest ⊢; simp [hrest]]
    rw [← jogOver_setJog s j .ending j.timer]
    exact settle_jogRelease (s := s.setJog (some { j with phase := .ending })) (j := { j with phase := .ending }) rfl ha ho hw
  · have hwritten : jogEnd s = jogRelease (jogEnding s j j.timer) := by
      simp only [jogEnd, hj, hact, writeJog_ending hm]
      have hstill : ((jogEnding s j j.timer).channel j.hatch j.channel).applied = 0 := by
        rw [jogEnding, State.channel_setChannel]
        exact hrest
      exact if_pos (by simpa using hstill)
    obtain ⟨a, heq, hempty⟩ := settle_jogRelease (s := jogEnding s j j.timer) (j := { j with phase := .ending }) rfl ha ho hw
    refine ⟨a, ?_, hempty⟩
    have hover : jogOver (jogEnding s j j.timer) { j with phase := .ending } = jogOver s j := by
      simp only [jogOver, jogEnding, State.channel_setChannel, hm, if_true, State.setChannel_setChannel]
      rfl
    rw [hwritten, heq, hover]

/-- A SHED jog whose channel still moves is ENDING, its entry withdrawn (R123). -/
theorem settle_jogEnd_shed {s : State} {j : Jog} (hj : s.drive.jog = some j) (ha : s.agenda = []) (ho : OnlyEntryOf s j.hatch)
    (hp : j.phase = .shed) (hpos : 0 < (s.channel j.hatch j.channel).applied)
    (hm : (s.channel j.hatch j.channel).jogMaster = true) :
    ∃ a : Arbiter, settle (jogEnd s) = withArbiter (jogEnding s j j.timer) a ∧ a.pending = [] ∧ a.granted = [] := by
  have hend : jogEnd s = removeEntry (jogEnding s j j.timer) j.hatch := by
    have hne : ¬ ((s.setJog (some { j with phase := .ending })).channel j.hatch j.channel).applied = 0 := Nat.pos_iff_ne_zero.mp hpos
    simp only [jogEnd, hj, hp, hne, if_false]
    exact (writeJog_ending (s := removeEntry s j.hatch) hm).trans rfl
  rw [hend]
  exact settle_removeEntry (s := jogEnding s j j.timer) ho ha

/-- An ACTIVE jog whose channel still moves is ENDING with its entry (R123). -/
theorem settle_jogEnd_active {s : State} {j : Jog} (hj : s.drive.jog = some j) (ha : s.agenda = []) (hp : j.phase = .active)
    (hpos : 0 < (s.channel j.hatch j.channel).applied) (hm : (s.channel j.hatch j.channel).jogMaster = true) :
    settle (jogEnd s) = jogEnding s j j.timer := by
  have hend : jogEnd s = jogEnding s j j.timer := by
    simp only [jogEnd, hj, hp, writeJog_ending hm]
    have hmoves : ((jogEnding s j j.timer).channel j.hatch j.channel).applied ≠ 0 := by
      rw [jogEnding, State.channel_setChannel]
      exact Nat.pos_iff_ne_zero.mp hpos
    exact if_neg (by simpa using hmoves)
  rw [hend, settle_nil (show (jogEnding s j j.timer).agenda = [] from ha)]

end Sys2Proof.Machine

namespace Sys2Proof.Jogging
open Sys2Proof Sys2Proof.Machine Sys2Proof.Safety

/-- Settles O41: the tests of R121 in order, then a jog alone in the Arbiter. -/
theorem jogStarts : Obligations.JogStarts := by
  intro s f h c d ho hv hh hc hd hrole hpos hmax hj hst htrip hvsup hcoil hpanel hblock hn hflow hcount j
  obtain ⟨w, hw⟩ : ∃ w, w = (reply { popped s with keyService := true } f .accepted (clampedBytes (f.word 5))).setJog
    (some { j with phase := .queued }) := ⟨_, rfl⟩
  have hexec : exec (.jog true) s = .next (settle (queueEntry w h (.jog c) .normal 40 40)) := by
    have hnot : isRenewal s f = false := by simp [isRenewal, hj]
    have hready : jogNotReady s h c = false := by
      simp only [jogNotReady, hvsup, hcoil, Bool.not_true, Bool.false_or]
      split
      · rename_i p hp
        simpa [Option.isSome_iff_ne_none] using hpanel p hp
      · rfl
    rw [show exec (.jog true) s = execJog true s from rfl, execJog, event_running ho.running,
      taking_offered ho (by simp [ho.ofKind, kindJog, hnot]), jogChecked_taken (s := popped s) hv hh hc hd hrole hmax,
      startJog_accepted (s := { popped s with keyService := true }) hj hst htrip hready hblock (by omega), hw]
  obtain ⟨a, htakes, hpending, hgranted⟩ := queueEntry_granted (s := w) h (.jog c) .normal 40 40 (by rw [hw]; exact hn)
    (by rw [hw]; exact hcount) (by rw [hw]; exact hflow) le_rfl
  have hgrant := takeJogGrant_queued (s := withArbiter w a) (j := { j with phase := .queued }) (by rw [hw]; rfl) rfl
  have htaken := htakes.trans (Takes.push (withArbiter w a) .jogGrant [])
  rw [show runTask .jogGrant ((withArbiter w a).push []) = takeJogGrant (withArbiter w a) from rfl, hgrant] at htaken
  refine ⟨_, hexec.trans (congrArg Host.Outcome.next (htaken.settled (by omega) (by rw [hw]; exact ho.agenda))), rfl, ?channel, ?others,
    by rw [hw]; rfl, by rw [hw]; rfl, by rw [hw]; rfl, hpending, ?granted, ?elsewhere, by rw [hw]; rfl⟩
  case channel =>
    rw [State.channel_setChannel, hw]
    rfl
  case others =>
    intro g x hne
    rw [State.channel_setChannel_ne _ _ hne, hw]
    rfl
  case granted =>
    refine hgranted.trans ?_
    have hshare : min 40 w.supply.available = 40 := by rw [hw]; exact Nat.min_eq_left hflow
    rw [hshare, hw]
    rfl
  case elsewhere =>
    refine sameElsewhere_of_outer ((setChannel_outer _ ?_).trans ?_)
    · rfl
    · rw [hw]
      rfl

/-- Settles O42: a renewal writes the record, and an ACTIVE jog its target. -/
theorem jogRenewalRewritesTarget : Obligations.JogRenewalRewritesTarget := by
  intro s f j d ho hv hj hp hh hc hd hrole hpos hmax renewed u
  have h0 : f.word 5 ≠ 0 := by omega
  have hexec : exec (.jogRenewal true) s = .next (settle (refreshJog u)) := by
    have his : isRenewal s f = true := by simp [isRenewal, hj, hp, jogHatch, hh, hatchOf_succ, jogChannel, hc]
    rw [show exec (.jogRenewal true) s = execJogRenewal true s from rfl, execJogRenewal, event_running ho.running,
      taking_offered ho (by simp [ho.ofKind, kindJog, his]), jogChecked_taken (s := popped s) hv hh hc hd hrole hmax]
    simp only [renewJog, popped_drive, hj, h0, if_false]
    rfl
  have hjog : u.drive.jog = some renewed := rfl
  refine ⟨fun hphase => ?waiting, fun hphase hm => ?active⟩
  case waiting =>
    have hsame : refreshJog u = u := by simp [refreshJog, hjog, renewed, hphase]
    rw [hexec, hsame, settle_nil (show u.agenda = [] from ho.agenda)]
  case active =>
    have hwritten : refreshJog u = u.setChannel j.hatch j.channel
        { s.channel j.hatch j.channel with target := ⟨d, if endStop s renewed then 0 else renewed.command⟩ } := by
      rw [show refreshJog u = writeJog u by simp [refreshJog, hjog, renewed, hphase], writeJog_master hjog hm, jogTarget_active (j := renewed) hphase]
      rfl
    rw [hexec, hwritten, settle_nil]
    exact ho.agenda

/-- Settles O43: the end of a jog, phase by phase. -/
theorem jogEnds : Obligations.JogEnds := by
  intro s ⟨hr, ha⟩
  have htimer : ∀ j : Jog, s.drive.jog = some j → j.phase ≠ .ending → j.timer < 500 →
      exec .jogTimerExpiry s = .next (settle (jogEnd (s.setJog (some { j with timer := 0 })))) := fun j hj hp ht => by
    have hn : ¬ 500 ≤ j.timer := by omega
    rw [show exec .jogTimerExpiry s = execJogTimerExpiry s from rfl, execJogTimerExpiry, event_running hr]
    simp [hj, hp, jogTime, hn]
  have hidle : (∀ j : Jog, s.drive.jog = some j → j.phase = .ending ∨ jogTime ≤ j.timer) → exec .jogTimerExpiry s = .next s := fun h => by
    rw [show exec .jogTimerExpiry s = execJogTimerExpiry s from rfl, execJogTimerExpiry, event_running hr]
    split
    · rename_i j hj
      rw [if_pos ((Bool.or_eq_true _ _).mpr ((h j hj).imp decide_eq_true decide_eq_true)), settle_nil ha]
    · rw [settle_nil ha]
  have hkey : exec .keyServiceOpens s = .next (settle (jogEnd { s with keyService := false })) := by
    rw [show exec .keyServiceOpens s = execKeyServiceOpens s from rfl, execKeyServiceOpens, if_neg (by simp [hr])]
  refine ⟨fun hj => ⟨hidle (by simp [hj]), ?_⟩, ?_⟩
  · rw [hkey]
    simp only [jogEnd, hj]
    rw [settle_nil (show ({ s with keyService := false } : State).agenda = [] from ha)]
  intro j hj r ending answers keyed back ends
  have hover : j.phase ≠ .ending → OnlyEntryOf s j.hatch → NothingWaits s j.hatch →
      (j.phase = .queued ∨ r.applied = 0 ∧ (j.phase = .shed ∨ j.phase = .active ∧ r.jogMaster = true)) → ends := by
    intro hp ho hw hphase
    have hdrive : (jogOver keyed j).drive = back := by
      have hr : keyed.channel j.hatch j.channel = r := rfl
      simp only [jogOver, back, hr]
      split <;> rfl
    refine ⟨fun ht => ?_, ?_⟩
    · obtain ⟨a, heq, hpending, hgranted⟩ := settle_jogEnd_over (s := s.setJog (some { j with timer := 0 }))
        (j := { j with timer := 0 }) rfl ha ho hw hphase
      obtain ⟨h1, h2, h3, h4, -, -, h5⟩ := jogOver_fields (s.setJog (some { j with timer := 0 })) { j with timer := 0 }
      exact ⟨_, (htimer j hj hp ht).trans (congrArg _ heq), congrArg (·.drive) (jogOver_setJog s j j.phase 0), ⟨hpending, hgranted⟩, h1, h2, h3, h4,
        sameElsewhere_of_outer (h5.trans rfl)⟩
    · obtain ⟨a, heq, hpending, hgranted⟩ := settle_jogEnd_over (s := keyed) hj ha ho hw hphase
      obtain ⟨h1, h2, h3, h4, -, -, h5⟩ := jogOver_fields keyed j
      exact ⟨_, hkey.trans (congrArg _ heq), hdrive, ⟨hpending, hgranted⟩, h1, h2, h3, h4, sameElsewhere_of_outer h5⟩
  refine ⟨fun ht => hidle fun i hi => ?_, fun hp ho hw => hover (by simp [hp]) ho hw (.inl hp), fun hp ho => ⟨fun hpos hm => ⟨fun ht => ?_, ?_⟩,
      fun hrest hw => hover (by simp [hp]) ho hw (.inr ⟨hrest, .inl hp⟩)⟩,
    fun hp hm => ⟨fun hpos => ⟨fun ht => ?_, ?_⟩, fun hrest ho hw => hover (by simp [hp]) ho hw (.inr ⟨hrest, .inr ⟨hp, hm⟩⟩)⟩,
    fun hp => ⟨hidle fun i hi => ?_, fun hpos => ?_⟩⟩
  · rw [← Option.some_inj.mp (hj.symm.trans hi)]
    exact .inr ht
  · obtain ⟨a, heq, hpending, hgranted⟩ := settle_jogEnd_shed (s := s.setJog (some { j with timer := 0 }))
      (j := { j with timer := 0 }) rfl ha ho hp hpos hm
    exact ⟨_, (htimer j hj (by simp [hp]) ht).trans (congrArg _ heq), rfl, ⟨hpending, hgranted⟩, rfl, rfl, rfl, rfl,
      sameElsewhere_of_outer (jogEnding_outer _ _ _)⟩
  · obtain ⟨a, heq, hpending, hgranted⟩ := settle_jogEnd_shed (s := keyed) hj ha ho hp hpos hm
    exact ⟨_, hkey.trans (congrArg _ heq), rfl, ⟨hpending, hgranted⟩, rfl, rfl, rfl, rfl,
      sameElsewhere_of_outer (jogEnding_outer _ _ _)⟩
  · rw [htimer j hj (by simp [hp]) ht, settle_jogEnd_active (s := s.setJog (some { j with timer := 0 }))
      (j := { j with timer := 0 }) rfl ha hp hpos hm]
    rfl
  · rw [hkey, settle_jogEnd_active (s := keyed) hj ha hp hpos hm]
    rfl
  · rw [← Option.some_inj.mp (hj.symm.trans hi)]
    exact .inl hp
  · have hstays : jogEnd keyed = keyed := by
      have hmoves : (keyed.channel j.hatch j.channel).applied ≠ 0 := Nat.pos_iff_ne_zero.mp hpos
      simp [jogEnd, show keyed.drive.jog = some j from hj, hp, jogReleaseIfRest, hmoves]
    rw [hkey]
    exact congrArg Host.Outcome.next ((congrArg settle hstays).trans (settle_nil ha))

end Sys2Proof.Jogging
end

section
/-!
Faults of a hatch (R68, R72, R157).
-/

namespace Sys2Proof.Machine
open Sys2Proof Sys2Proof.Safety

/-- The withdrawal of the only entry, first of what waits. -/
theorem takes_leave {s : State} {h : Hatch} (ts : List Task) (ho : OnlyEntryOf s h) :
    ∃ a : Arbiter, Takes 1 (s.push (.leave h :: ts)) (withArbiter (s.push ts) a) ∧ a.pending = [] ∧ a.granted = [] := by
  obtain ⟨a, ha, hempty⟩ := takeLeave_empties (s := s.push ts) (h := h) ho
  have htakes := Takes.push s (.leave h) ts
  rw [show runTask (.leave h) (s.push ts) = takeLeave (s.push ts) h from rfl, ha] at htakes
  exact ⟨a, htakes, hempty⟩

/-! ### A fault event (R72) -/

/-- The hatch in FAULT with one cause more (R72). -/
def faulted (s : State) (h : Hatch) (c : FaultCause) : State :=
  (judged (s.updCtx h fun x => { x with state := .fault, held := none, next := none }) h).updCtx h fun x =>
    { x with faults := withCause x.faults c, lastFault := some c }

/-- The hatch without its step; the cleats that a RECLAMP had taken wait again (R59, R158). -/
def stepLost (s : State) (h : Hatch) : State :=
  if hasReclamp s h then reclampEvent (dropStep s h) h .reclampKept else dropStep s h

section
variable (s : State) (h : Hatch) (c : FaultCause)

theorem faulted_ctx : (faulted s h c).ctx h = { s.ctx h with
    state := .fault
    held := none
    next := none
    faults := withCause (s.ctx h).faults c
    lastFault := some c } := by
  simp [faulted]

@[simp] theorem faulted_agenda : (faulted s h c).agenda = s.agenda := rfl
@[simp] theorem faulted_arbiter : (faulted s h c).arbiter = s.arbiter := rfl
@[simp] theorem faulted_supply : (faulted s h c).supply = s.supply := rfl
@[simp] theorem faulted_drive : (faulted s h c).drive = s.drive := rfl
@[simp] theorem faulted_outer : (faulted s h c).outer = s.outer := rfl
@[simp] theorem faulted_link : (faulted s h c).link = s.link := rfl

theorem faulted_others : OtherHatchesKept s (faulted s h c) h :=
  ((OtherHatchesKept.updCtx s h _).trans (.judged _ h)).trans (.updCtx _ h _)

theorem stepLost_eq : stepLost s h = { dropStep s h with table := (stepLost s h).table } := by
  simp only [stepLost]
  split <;> rfl

@[simp] theorem stepLost_ctx : (stepLost s h).ctx h = { s.ctx h with step := none } := by
  rw [stepLost_eq]
  exact dropStep_ctx s h

@[simp] theorem stepLost_agenda : (stepLost s h).agenda = s.agenda := by rw [stepLost_eq]; rfl
@[simp] theorem stepLost_arbiter : (stepLost s h).arbiter = s.arbiter := by rw [stepLost_eq]; rfl
@[simp] theorem stepLost_supply : (stepLost s h).supply = s.supply := by rw [stepLost_eq]; rfl
@[simp] theorem stepLost_drive : (stepLost s h).drive = (dropStep s h).drive := by rw [stepLost_eq]
@[simp] theorem stepLost_outer : (stepLost s h).outer = s.outer := by
  simp only [stepLost]
  split <;> simp

theorem stepLost_others : OtherHatchesKept s (stepLost s h) h := by
  simp only [stepLost]
  split
  · exact (OtherHatchesKept.dropStep s h).trans (.reclampEvent _ h _)
  · exact .dropStep s h

end

theorem faultHatch_idle {s : State} {h : Hatch} {c : FaultCause} (hs : (s.ctx h).step = none) (hf : (s.ctx h).state ≠ .fault) :
    faultHatch s h c = faulted s h c := by
  have hr : hasReclamp s h = false := by simp [hasReclamp, hs]
  simp only [faultHatch, hf, if_false, hr, withdraw, hs]
  rw [if_neg (by decide), enterState_not_closed (by decide)]
  rfl

/-- A fault on a hatch with a step withdraws the step before all else (R59, R72). -/
theorem faultHatch_step {s : State} {h : Hatch} {c : FaultCause} {t : StepCtx} (hs : (s.ctx h).step = some t)
    (hf : (s.ctx h).state ≠ .fault) : faultHatch s h c = (faulted (stepLost s h) h c).push [.leave h] := by
  simp only [faultHatch, hf, if_false, withdraw, hs, stepLost]
  split <;> rw [enterState_not_closed (by decide)] <;> rfl

/-- A fault of a hatch that is alone in the Arbiter: FAULT without its step, and an empty Arbiter. -/
theorem takes_faultHatch {s : State} {h : Hatch} {c : FaultCause} (hf : (s.ctx h).state ≠ .fault) (ho : OnlyEntryOf s h)
    (hn : (s.ctx h).step = none → NoEntry s) : ∃ k t, k ≤ 1 ∧ Takes k (faultHatch s h c) t ∧ t.agenda = s.agenda ∧
      t.ctx h = { s.ctx h with
        state := .fault
        held := none
        next := none
        step := none
        faults := withCause (s.ctx h).faults c
        lastFault := some c } ∧
      OtherHatchesKept s t h ∧ t.outer = s.outer ∧ NoEntry t ∧ t.supply = s.supply ∧
      ((s.ctx h).step ≠ none → ∀ d, (t.channel h d).sequencerTarget.command = 0) := by
  cases hs : (s.ctx h).step with
  | none =>
    refine ⟨0, _, Nat.zero_le 1, .refl _, ?_⟩
    rw [faultHatch_idle hs hf]
    exact ⟨rfl, by rw [faulted_ctx, ← hs], faulted_others s h c, rfl, hn hs, rfl, fun hne => absurd rfl hne⟩
  | some t =>
    obtain ⟨a, htakes, hp, hg⟩ := takes_leave (s := faulted (stepLost s h) h c) (h := h) []
      (by simpa only [OnlyEntryOf, faulted_arbiter, stepLost_arbiter] using ho)
    refine ⟨1, withArbiter (faulted (stepLost s h) h c) a, le_rfl, by rw [faultHatch_step hs hf]; exact htakes, stepLost_agenda s h, ?_,
      ((stepLost_others s h).trans (faulted_others _ h c)).trans (.withArbiter _ a h), by simp, ⟨hp, hg⟩, by simp, fun _ d => ?_⟩
    · rw [withArbiter_ctx, faulted_ctx, stepLost_ctx]
    · have hdrive : (stepLost s h).drive = (dropStep s h).drive := stepLost_drive s h
      simpa only [State.channel, withArbiter_drive, faulted_drive, hdrive] using dropStep_command s h d

/-! ### The timeout of a RECLAMP (R157) -/

theorem slot_reclampEvent (s : State) (h : Hatch) (f : CleatRec → CleatRec) (id : CleatId) :
    (reclampEvent s h f).slot id =
      if cleatHatch id = h then (s.slot id).map fun r => if r.isHydraulic then f r else r else s.slot id := by
  simp [reclampEvent, State.slot]

theorem reclampSet_empty {s : State} {h : Hatch} (hw : ∀ id r, cleatHatch id = h → s.slot id = some r → r.wanted = .no) :
    (reclampSet s h).isEmpty = true := by
  have hnone : ∀ g, ((hatchRecords s h).any fun r => r.2.wanted != .no && decide (cleatGroup r.1 = g)) = false := fun g => by
    rw [List.any_eq_false]
    intro ⟨id, r⟩ hr
    obtain ⟨hid, hslot⟩ := mem_hatchRecords.mp hr
    simp [hw id r hid hslot]
  simp [reclampSet, hnone, Groups.isEmpty]

end Sys2Proof.Machine

namespace Sys2Proof.Motions
open Sys2Proof Sys2Proof.Machine Sys2Proof.Safety

/-- Settles O33: either event is one fault of a hatch that is alone in the Arbiter. -/
theorem stepFaults : Obligations.StepFaults := by
  intro s h t ⟨hr, ha⟩ hs hp hn hf ho result
  have hfault : ∀ c, ∃ u, settle (faultHatch s h c) = u ∧ result c u := fun c => by
    obtain ⟨k, u, hk, htakes, hagenda, hctx, hothers, houter, hentry, hsupply, hcommand⟩ :=
      takes_faultHatch (c := c) hf ho (by simp [hs])
    exact ⟨u, htakes.settled (by omega) (hagenda.trans ha), hctx, hothers, sameElsewhere_of_outer houter, hentry, hsupply,
      hcommand (by simp [hs])⟩
  have htimeout : exec (.stepTimeout h) s = .next (settle (if 0 < t.elapsed then faultHatch s h .stepTimeout else s)) := by
    rw [show exec (.stepTimeout h) s = execStepTimeout h s from rfl, execStepTimeout, event_running hr]
    simp [hs, hp, hn]
  have hstall : ∀ p, exec (.stall h p) s = .next (settle (if stallCounts s h p then faultHatch s h .stall else s)) := fun p => by
    rw [show exec (.stall h p) s = execStall h p s from rfl, execStall, event_running hr]
  refine ⟨fun hpos => ?_, fun hzero => ?_, fun p hroll v hv => ⟨fun h300 hslow => ?_, fun hfast => ?_⟩⟩
  · obtain ⟨u, hu, hres⟩ := hfault .stepTimeout
    exact ⟨u, by rw [htimeout, if_pos hpos, hu], hres⟩
  · rw [htimeout, if_neg (by omega), settle_nil ha]
  · obtain ⟨u, hu, hres⟩ := hfault .stall
    exact ⟨u, by rw [hstall, if_pos (by simp only [stallCounts, hs, hp, hroll, h300, hv, hslow, decide_true, Bool.and_self]), hu], hres⟩
  · have hno : stallCounts s h p = false := by
      simp only [stallCounts, hs, hv]
      rcases hfast with hlt | hge
      · simp [hlt]
      · simp only [decide_eq_false (show ¬ (v.natAbs : Int) < s.params.stallSpeed by omega), Bool.and_false]
    rw [hstall, hno, if_neg (by decide), settle_nil ha]

/-- Settles O34: the withdrawal empties the Arbiter, and the boundary finds no cleat that waits. -/
theorem reclampTimeoutEndsReclamp : Obligations.ReclampTimeoutEndsReclamp := by
  intro s h t ⟨hr, ha⟩ hs hp hn hc ho hwanted
  have htimeout : exec (.stepTimeout h) s = .next (settle (if 0 < t.elapsed then reclampTimeout s h else s)) := by
    rw [show exec (.stepTimeout h) s = execStepTimeout h s from rfl, execStepTimeout, event_running hr]
    simp [hs, hp, hn]
  refine ⟨fun hzero => by rw [htimeout, if_neg (by omega), settle_nil ha], fun hpos => ?_⟩
  obtain ⟨w, hw⟩ : ∃ w, w = reclampEvent (dropStep s h) h .reclampTimedOut := ⟨_, rfl⟩
  have hslot : ∀ id r, s.slot id = some r → w.slot id = some (if cleatHatch id = h ∧ r.wanted = .taken then
      { r with wanted := .no, lost := r.lost || r.verdict != .engaged } else r) := fun id r hid => by
    have hid' : (dropStep s h).slot id = some r := hid
    rw [hw, slot_reclampEvent, hid']
    by_cases hh : cleatHatch id = h
    · simp only [hh, if_true, true_and, Option.map_some, CleatRec.reclampTimedOut]
      by_cases hwant : r.wanted = .no
      · simp [hwant]
      · obtain ⟨htaken, hyd⟩ := hwanted id r hh hid hwant
        simp [isHydraulic_iff.mpr hyd, htaken]
    · simp [hh]
  have hnone : (reclampSet w h).isEmpty = true := reclampSet_empty fun id r hh hid => by
    cases hold : s.slot id with
    | none => simp [hw, slot_reclampEvent, hh, show (dropStep s h).slot id = none from hold] at hid
    | some r' =>
      obtain rfl := Option.some_inj.mp ((hslot id r' hold).symm.trans hid)
      by_cases hwant : r'.wanted = .no
      · simp [hwant]
      · simp [hh, (hwanted id r' hh hold hwant).1]
  obtain ⟨a, htakes, hpending, hgranted⟩ := takes_leave (s := w) (h := h) [.boundary h .reclamp] (by rw [hw]; exact ho)
  have hboundary := htakes.trans (Takes.push (withArbiter w a) (.boundary h .reclamp) [])
  rw [show runTask (.boundary h .reclamp) ((withArbiter w a).push []) = reclampTest (withArbiter w a) h from rfl,
    reclampTest_nothing (s := withArbiter w a) hnone] at hboundary
  refine ⟨withArbiter w a, ?_, ?_, ⟨hpending, hgranted⟩, fun g hg => ?_, ?_, fun c => ?_, fun id r hid => hslot id r hid⟩
  · rw [htimeout, if_pos hpos, reclampTimeout, ← hw, removeEntry, State.push_push]
    exact congrArg _ (hboundary.settled (by omega) (by rw [hw]; exact ha))
  · rw [hw]
    exact dropStep_ctx s h
  · rw [hw]
    exact (OtherHatchesKept.dropStep s h g hg).1
  · exact sameElsewhere_of_outer (by rw [hw]; simp)
  · rw [hw]
    exact dropStep_command s h c

end Sys2Proof.Motions
end

section
/-!
The coil check of a drive update at its limit (R116 to R118).
-/

namespace Sys2Proof.Machine
open Sys2Proof Sys2Proof.Safety

@[simp] theorem State.setChannel_ctx (s : State) (h : Hatch) (c : Channel) (r : ChannelRec) (g : Hatch) :
    (s.setChannel h c r).ctx g = s.ctx g := rfl

/-- An on/off channel that stands at its full command in its target's direction stays there (R113). -/
theorem stepped_full {r : ChannelRec} {p : Image} (hcmd : 0 < r.target.command) (hwork : r.working = some r.target.dir)
    (happ : r.applied = 1000) : r.stepped p false false = r := by
  obtain ⟨_, target, _, working, applied⟩ := r
  have hne : target.command ≠ 0 := Nat.pos_iff_ne_zero.mp hcmd
  dsimp only at hwork happ
  subst hwork happ
  simp [ChannelRec.stepped, ChannelRec.moved, hne]

/-- A channel at rest with command 0 stays at rest, held or not (R112, R113). -/
theorem stepped_rest {r : ChannelRec} {p : Image} {held proportional : Bool} (hcmd : r.target.command = 0)
    (hwork : r.working = none) (happ : r.applied = 0) : r.stepped p held proportional = r := by
  obtain ⟨_, target, _, working, applied⟩ := r
  dsimp only at hwork happ hcmd
  subst hwork happ
  cases held <;> simp [ChannelRec.stepped, ChannelRec.moved, hcmd]

section
variable {s : State} {h : Hatch} {c : Channel}

theorem restingUpdate_noJog (hj : s.drive.jog = none) : restingUpdate s h c = s := by simp [restingUpdate, hj]

theorem jogReleaseIfRest_noJog (hj : s.drive.jog = none) : jogReleaseIfRest s = s := by simp [jogReleaseIfRest, hj]

/-- A mismatch of one class that has stood for 180 ms is a coil fault at the next update (R116). -/
theorem declares_at_limit {before after : ChannelRec} (ht : before.mismatchTimer = 180) (hsame : after.mismatch = before.mismatch)
    (hm : before.mismatch = mismatchOf after.energised after.sensed) (hne : before.mismatch ≠ .none)
    (hafter : after.mismatchTimer = before.mismatchTimer) : declares before after.checked = true := by
  have hclass : mismatchOf after.energised after.sensed = after.mismatch := (hsame.trans hm).symm
  have hchecked : after.checked.mismatchTimer = 200 := by
    simp [ChannelRec.checked, hclass, hsame, hne, hafter, ht]
  simp [declares, hchecked, ht]

/-- The two hand-offs of a changed applied command find a hatch in FAULT without a step, and do nothing. -/
theorem takes_report_faulted {t : State} (hf : (t.ctx h).state = .fault) (hs : (t.ctx h).step = none) :
    Takes 2 (t.push [.stoppingEnd h, .doneTest h]) t := by
  have hend : stoppingEnd (t.push [.doneTest h]) h = t.push [.doneTest h] := by simp [stoppingEnd, hf]
  have hdone : doneTest t h = t := by simp [doneTest, hs]
  have hfirst := Takes.push t (.stoppingEnd h) [.doneTest h]
  rw [show runTask (.stoppingEnd h) _ = stoppingEnd (t.push [.doneTest h]) h from rfl, hend] at hfirst
  have hsecond := Takes.push t (.doneTest h) []
  rw [State.push_nil, show runTask (.doneTest h) t = doneTest t h from rfl, hdone] at hsecond
  exact hfirst.trans hsecond

/-- The drive update at which an on/off channel has been without current for 200 ms (R117). -/
theorem updateChannel_openCoil (hj : s.drive.jog = none) (ht : (s.channel h c).mismatchTimer = 180)
    (hheld : channelHeld s h c = false) (hroll : rollPanel? c = none) (hm : (s.channel h c).mismatch = .onWithoutCurrent)
    (hcmd : 0 < (s.channel h c).target.command) (hwork : (s.channel h c).working = some (s.channel h c).target.dir)
    (happ : (s.channel h c).applied = 1000) (hsense : (s.channel h c).sensed = none) :
    ∃ r : ChannelRec, r.coilFault = true ∧ r.applied = 0 ∧ r.duty = 0 ∧ r.working = none ∧ r.deadtime = s.params.deadtime ∧
      r.mismatchTimer = 0 ∧
      updateChannel h c s = (syncStall (s.setChannel h c r) h).push [.openCoil h c, .stoppingEnd h, .doneTest h] := by
  have hstep : (s.channel h c).stepped s.params (channelHeld s h c) (rollPanel? c).isSome = s.channel h c := by
    rw [hheld, hroll]
    exact stepped_full hcmd hwork happ
  have hdecl : declares (s.channel h c) (updatedChannel s h c) = true := by
    refine declares_at_limit ht ?_ ?_ (by simp [hm]) ?_ <;> rw [hstep]
    simp [hm, hsense, ChannelRec.energised, hwork, happ, mismatchOf]
  have hclass : (updatedChannel s h c).mismatch = .onWithoutCurrent := by
    simp [updatedChannel, hstep, ChannelRec.checked, ChannelRec.energised, hwork, happ, hsense, mismatchOf]
  refine ⟨{ (updatedChannel s h c).forcedOff s.params.deadtime with coilFault := true }, rfl, rfl, rfl, rfl, rfl, rfl, ?_⟩
  have hfound : coilFound (s.setChannel h c (updatedChannel s h c)) h c (s.channel h c) =
      (s.setChannel h c { (updatedChannel s h c).forcedOff s.params.deadtime with coilFault := true }, [.openCoil h c]) := by
    simp [coilFound, State.channel_setChannel, hdecl, hclass, declareOpenCoil, State.setChannel_setChannel]
    rfl
  simp only [updateChannel, hfound, State.channel_setChannel]
  rw [if_neg (by simp [ChannelRec.forcedOff, ChannelRec.cutOff, happ]), reportApplied, jogReleaseIfRest_noJog (by exact hj)]
  rfl

/-- The part after a STUCK_ON: the channel's flag, and the hatch cut (R118). -/
def stuckOff (s : State) (h : Hatch) (c : Channel) (r : ChannelRec) : State :=
  let cut := (s.setChannel h c r).updChannels h fun _ x => x.forcedOff s.params.deadtime
  { cut with drive := { cut.drive with cut := s.drive.cut.set h true } }

theorem stuckOff_channel (s : State) (h : Hatch) (c : Channel) (r : ChannelRec) (d : Channel) :
    (stuckOff s h c r).channel h d = ((s.setChannel h c r).channel h d).forcedOff s.params.deadtime :=
  State.channel_updChannels (s.setChannel h c r) h _ d

theorem stuckOff_others (s : State) (h : Hatch) (c : Channel) (r : ChannelRec) : OtherHatchesKept s (stuckOff s h c r) h := fun _ hg =>
  ⟨rfl, rfl, fun d => (State.channel_updChannels_ne (s.setChannel h c r) _ d (Ne.symm hg)).trans
    (State.channel_setChannel_ne s r fun he => hg (congrArg Prod.fst he)), fun _ _ => rfl⟩

theorem declareStuckOn_uncut (r : ChannelRec) (hcut : s.drive.cut.get h = false) :
    declareStuckOn (s.setChannel h c r) h c = stuckOff s h c { r with coilFault := true } := by
  rw [declareStuckOn, State.channel_setChannel, State.setChannel_setChannel]
  exact if_neg (by simp [State.setChannel, hcut])

/-- The drive update at which a channel at rest has read current for 200 ms (R118). -/
theorem updateChannel_stuckOn (hj : s.drive.jog = none) (ht : (s.channel h c).mismatchTimer = 180)
    (hm : (s.channel h c).mismatch = .currentWithoutOn) (happ : (s.channel h c).applied = 0)
    (hwork : (s.channel h c).working = none) (hcmd : (s.channel h c).target.command = 0) (hsense : (s.channel h c).sensed ≠ none)
    (hcut : s.drive.cut.get h = false) :
    ∃ r : ChannelRec, r.coilFault = true ∧ updateChannel h c s = (stuckOff s h c r).push [.stuckOn h c] := by
  have hstep : (s.channel h c).stepped s.params (channelHeld s h c) (rollPanel? c).isSome = s.channel h c :=
    stepped_rest hcmd hwork happ
  have hclass : mismatchOf none (s.channel h c).sensed = .currentWithoutOn := by
    cases hx : (s.channel h c).sensed with
    | none => exact absurd hx hsense
    | some d => rfl
  have hdecl : declares (s.channel h c) (updatedChannel s h c) = true := by
    refine declares_at_limit ht ?_ ?_ (by simp [hm]) ?_ <;> rw [hstep]
    simp [hm, ChannelRec.energised, happ, hclass]
  have hclass' : (updatedChannel s h c).mismatch = .currentWithoutOn := by
    simp [updatedChannel, hstep, ChannelRec.checked, ChannelRec.energised, happ, hclass]
  refine ⟨{ updatedChannel s h c with coilFault := true }, rfl, ?_⟩
  have hfound : coilFound (s.setChannel h c (updatedChannel s h c)) h c (s.channel h c) =
      (stuckOff s h c { updatedChannel s h c with coilFault := true }, [.stuckOn h c]) := by
    rw [coilFound, State.channel_setChannel, if_pos hdecl, if_pos hclass', declareStuckOn_uncut _ hcut]
  simp only [updateChannel, hfound, stuckOff_channel, State.channel_setChannel]
  rw [if_pos (by simp [ChannelRec.forcedOff, ChannelRec.cutOff, happ, hwork])]
  rw [restingUpdate_noJog (s := stuckOff s h c { updatedChannel s h c with coilFault := true }) hj]

/-- A fault whose event still has hand-offs: they find the hatch in FAULT without its step. -/
theorem settle_faulted_push {w : State} {u : State} {ts : List Task} (hw : w.agenda = []) (hu : Takes 1 u (faultHatch (w.push ts) h .valve))
    (hts : ts = [] ∨ ts = [.stoppingEnd h, .doneTest h]) (hf : (w.ctx h).state ≠ .fault) (ho : OnlyEntryOf w h)
    (hn : (w.ctx h).step = none → NoEntry w) : ∃ t, settle u = t ∧ (t.ctx h).state = .fault ∧ (t.ctx h).lastFault = some .valve ∧
      (t.ctx h).step = none ∧ NoEntry t ∧ OtherHatchesKept w t h ∧ t.outer = w.outer := by
  obtain ⟨k, t, hk, htakes, hagenda, hctx, hothers, houter, hentry, -, -⟩ :=
    takes_faultHatch (s := w.push ts) (h := h) (c := .valve) hf ho hn
  have hstate : (t.ctx h).state = .fault := by rw [hctx]
  have hlast : (t.ctx h).lastFault = some .valve := by rw [hctx]
  have hstep : (t.ctx h).step = none := by rw [hctx]
  obtain ⟨t', ht'⟩ : ∃ t', t' = { t with agenda := [] } := ⟨_, rfl⟩
  have hpush : t = t'.push ts := by
    rw [ht', State.push, List.append_nil, ← show t.agenda = ts by rw [hagenda, State.push, hw, List.append_nil]]
  have hrest : Takes 2 t t' ∨ Takes 0 t t' := by
    rw [hpush]
    rcases hts with rfl | rfl
    · exact .inr (.refl _)
    · exact .inl (takes_report_faulted (by rw [ht']; exact hstate) (by rw [ht']; exact hstep))
  have hnil : t'.agenda = [] := by rw [ht']
  refine ⟨t', ?_, ?_⟩
  · rcases hrest with hrest | hrest
    · exact ((hu.trans htakes).trans hrest).settled (by omega) hnil
    · exact ((hu.trans htakes).trans hrest).settled (by omega) hnil
  · rw [ht']
    exact ⟨hstate, hlast, hstep, hentry, (OtherHatchesKept.push w h ts).trans hothers,
      houter.trans (push_outer w ts)⟩

end

end Sys2Proof.Machine

namespace Sys2Proof.Drives
open Sys2Proof Sys2Proof.Machine Sys2Proof.Safety

/-- Settles O39: either coil fault is handed on as one fault of a hatch that is alone in the Arbiter. -/
theorem coilFaultsForceOff : Obligations.CoilFaultsForceOff := by
  intro s h c ⟨hr, ha⟩ ho hn hj hf ht
  have hexec : exec (.driveUpdate h c) s = .next (settle (updateChannel h c s)) := by
    rw [show exec (.driveUpdate h c) s = execDriveUpdate h c s from rfl, execDriveUpdate, event_running hr]
  refine ⟨fun hheld hroll hm hcmd hwork happ hsense hmoving => ?_, fun hm happ hwork hcmd hsense hcut => ?_⟩
  · obtain ⟨r, hflag, happ', hduty, hwork', hdead, htimer, hupd⟩ :=
      updateChannel_openCoil hj ht hheld hroll hm hcmd hwork happ hsense
    obtain ⟨w, hw⟩ : ∃ w, w = syncStall (s.setChannel h c r) h := ⟨_, rfl⟩
    have hctx : w.ctx h = { s.ctx h with step := (w.ctx h).step } := by rw [hw]; simp [syncStall]
    have hstep : (w.ctx h).step = none → (s.ctx h).step = none := by
      rw [hw]
      simp [syncStall]
    have hfirst := Takes.push w (.openCoil h c) [.stoppingEnd h, .doneTest h]
    have htask : runTask (.openCoil h c) (w.push [.stoppingEnd h, .doneTest h]) =
        faultHatch (w.push [.stoppingEnd h, .doneTest h]) h .valve := by
      have hmv : ((w.push [.stoppingEnd h, .doneTest h]).ctx h).state.isMoving = true := by rw [State.push_ctx, hctx]; exact hmoving
      have hjog : (w.push [.stoppingEnd h, .doneTest h]).drive.jog = none := by rw [hw]; exact hj
      simp only [runTask, takeOpenCoil, hjog, hmv, if_true]
    rw [htask] at hfirst
    obtain ⟨t, hsettle, hst, hlast, hnone, hentry, hothers, houter⟩ := settle_faulted_push (by rw [hw]; exact ha) hfirst (.inr rfl)
      (by rw [hctx]; exact hf) (by rw [hw]; exact ho) fun hs => by rw [hw]; exact hn (hstep hs)
    have hplant := plant_of_outer houter h c
    have hchan : w.channel h c = r := by rw [hw]; exact State.channel_setChannel s h c r
    rw [hchan] at hplant
    refine ⟨t, by rw [hexec, hupd, ← hw, hsettle], (congrArg ChannelRec.coilFault hplant).trans hflag,
      (congrArg ChannelRec.applied hplant).trans happ', (congrArg ChannelRec.duty hplant).trans hduty,
      (congrArg ChannelRec.working hplant).trans hwork', (congrArg ChannelRec.deadtime hplant).trans hdead,
      (congrArg ChannelRec.mismatchTimer hplant).trans htimer, ?_, hst, hlast, hnone, hentry, .trans (fun g hg => ?_) hothers⟩
    · rw [cut_of_outer houter, hw]
      rfl
    · rw [hw]
      exact ⟨State.ctx_updCtx_ne _ _ (Ne.symm hg), rfl, fun d => State.channel_setChannel_ne s r fun he => hg (congrArg Prod.fst he),
        fun _ _ => rfl⟩
  · obtain ⟨r, hflag, hupd⟩ := updateChannel_stuckOn hj ht hm happ hwork hcmd hsense hcut
    obtain ⟨w, hw⟩ : ∃ w, w = stuckOff s h c r := ⟨_, rfl⟩
    have hfirst := Takes.push w (.stuckOn h c) []
    have htask : runTask (.stuckOn h c) (w.push []) = faultHatch (w.push []) h .valve := by
      have hjog : jogOn w h = false := by rw [hw]; simp [jogOn, show (stuckOff s h c r).drive.jog = none from hj]
      simp [runTask, takeStuckOn, jogEndOn, hjog]
    rw [htask] at hfirst
    obtain ⟨t, hsettle, hst, hlast, hnone, hentry, hothers, houter⟩ := settle_faulted_push (by rw [hw]; exact ha) hfirst (.inl rfl)
      (by rw [hw]; exact hf) (by rw [hw]; exact ho) fun hs => by rw [hw] at hs ⊢; exact hn hs
    have hchan : ∀ d, (t.channel h d).plant = (((s.setChannel h c r).channel h d).forcedOff s.params.deadtime).plant := fun d => by
      rw [plant_of_outer houter, hw, stuckOff_channel]
    have hcutAfter : t.drive.cut.get h = true := by
      rw [cut_of_outer houter, hw]
      exact Tbl.get_set_self _ _ _
    refine ⟨t, by rw [hexec, hupd, ← hw, hsettle], ?_, hcutAfter, by simp [State.vsupOn, hcutAfter], fun d => ?_, hst, hlast, hnone, hentry,
      .trans (by rw [hw]; exact stuckOff_others s h c r) hothers⟩
    · have hplant := congrArg ChannelRec.coilFault (hchan c)
      rw [State.channel_setChannel] at hplant
      exact hplant.trans hflag
    · exact ⟨congrArg ChannelRec.applied (hchan d), congrArg ChannelRec.duty (hchan d), congrArg ChannelRec.working (hchan d),
        congrArg ChannelRec.deadtime (hchan d)⟩

end Sys2Proof.Drives
end

section
/-!
Trips (R78, R89, R126): of one hatch by its own loop, and of the whole part by the ESTOP loop.
-/

namespace Sys2Proof.Machine
open Sys2Proof Sys2Proof.Safety

/-! ### The trip of one hatch -/

/-- The context of a hatch after its trip (R78). -/
def trippedCtx (c : HatchCtx) : HatchCtx :=
  if c.state.isMoving then
    { c with state := .held, held := some .trip, next := none, step := if c.state = .stopping then c.step else none }
  else if c.state = .closed ∧ c.step.map (·.name) = some .reclamp then { c with step := none }
  else c

/-- The hatch HELD with a cause, with its verdict decided afresh (R61). -/
def heldFor (s : State) (h : Hatch) (k : HeldCause) : State :=
  judged (s.updCtx h fun x => { x with state := .held, held := some k, next := none }) h

section
variable {s : State} {h : Hatch}

theorem enterHeld_eq (k : HeldCause) : enterHeld s h k = heldFor s h k := enterState_not_closed (by decide)

theorem heldFor_ctx (s : State) (h : Hatch) (k : HeldCause) :
    (heldFor s h k).ctx h = { s.ctx h with state := .held, held := some k, next := none } := by
  simp [heldFor]

@[simp] theorem heldFor_agenda (s : State) (h : Hatch) (k : HeldCause) : (heldFor s h k).agenda = s.agenda := rfl
@[simp] theorem heldFor_arbiter (s : State) (h : Hatch) (k : HeldCause) : (heldFor s h k).arbiter = s.arbiter := rfl
@[simp] theorem heldFor_supply (s : State) (h : Hatch) (k : HeldCause) : (heldFor s h k).supply = s.supply := rfl
@[simp] theorem heldFor_drive (s : State) (h : Hatch) (k : HeldCause) : (heldFor s h k).drive = s.drive := rfl
@[simp] theorem dropStep_jog (s : State) (h : Hatch) : (dropStep s h).drive.jog = s.drive.jog := rfl

theorem heldFor_others (s : State) (h : Hatch) (k : HeldCause) : OtherHatchesKept s (heldFor s h k) h :=
  (OtherHatchesKept.updCtx s h _).trans (.judged _ h)

theorem hasReclamp_iff : hasReclamp s h = true ↔ (s.ctx h).step.map (·.name) = some .reclamp := by
  simp only [hasReclamp]
  split <;> simp_all

theorem withdraw_step {t : StepCtx} (hs : (s.ctx h).step = some t) : withdraw s h = (dropStep s h).push [.leave h] := by
  simp only [withdraw, hs, removeEntry]

theorem withdraw_idle (hs : (s.ctx h).step = none) : withdraw s h = s := by simp only [withdraw, hs]

theorem trippedCtx_moving (hm : (s.ctx h).state.isMoving = true) : trippedCtx (s.ctx h) = { s.ctx h with
    state := .held
    held := some .trip
    next := none
    step := if (s.ctx h).state = .stopping then (s.ctx h).step else none } := by
  rw [trippedCtx, if_pos hm]

theorem trippedCtx_reclamping (hr : Reclamping s h) : trippedCtx (s.ctx h) = { s.ctx h with step := none } := by
  have hm : ¬ (s.ctx h).state.isMoving = true := by simp [hr.1, HatchState.isMoving]
  exact (if_neg hm).trans (if_pos hr)

theorem trippedCtx_rests (hm : (s.ctx h).state.isMoving = false) (hr : ¬ Reclamping s h) : trippedCtx (s.ctx h) = s.ctx h :=
  (if_neg (Bool.eq_false_iff.mp hm)).trans (if_neg hr)

/-- The trip of an OPENING or CLOSING hatch with a step. -/
theorem tripHatch_moves {t : StepCtx} (hs : (s.ctx h).step = some t) (hm : (s.ctx h).state = .opening ∨ (s.ctx h).state = .closing) :
    tripHatch s h = (heldFor (dropStep s h) h .trip).push [.leave h] := by
  have : tripHatch s h = enterHeld (withdraw s h) h .trip := by rcases hm with hm | hm <;> simp only [tripHatch, hm]
  rw [this, withdraw_step hs, enterHeld_eq]
  rfl

/-- The trip of a moving hatch that has no step to withdraw. -/
theorem tripHatch_stops (hm : (s.ctx h).state.isMoving = true) (hs : (s.ctx h).state = .stopping ∨ (s.ctx h).step = none) :
    tripHatch s h = heldFor s h .trip := by
  rw [← enterHeld_eq]
  cases hst : (s.ctx h).state with
  | stopping => simp only [tripHatch, hst]
  | opening | closing =>
    have hnone : (s.ctx h).step = none := hs.resolve_left (by simp [hst])
    simp only [tripHatch, hst, withdraw_idle hnone]
  | _ => simp [hst, HatchState.isMoving] at hm

theorem tripHatch_reclamps (hr : Reclamping s h) :
    tripHatch s h = (reclampEvent (dropStep s h) h .reclampKept).push [.leave h] := by
  obtain ⟨hc, hn⟩ := hr
  obtain ⟨t, hs, -⟩ := Option.map_eq_some_iff.mp hn
  simp only [tripHatch, hc, hasReclamp_iff.mpr hn, if_true, withdraw_step hs]
  rfl

theorem tripHatch_rests (hm : (s.ctx h).state.isMoving = false) (hr : ¬ Reclamping s h) : tripHatch s h = s := by
  cases hst : (s.ctx h).state with
  | closed =>
    have : ¬ hasReclamp s h = true := fun hrec => hr ⟨hst, hasReclamp_iff.mp hrec⟩
    simp only [tripHatch, hst, this, if_false, Bool.false_eq_true]
  | stopping | opening | closing => simp [hst, HatchState.isMoving] at hm
  | _ => simp only [tripHatch, hst]

/-- What the trip of one hatch does to the contexts, and what it hands on. -/
theorem tripHatch_spec (s : State) (h : Hatch) : (tripHatch s h).ctx h = trippedCtx (s.ctx h) ∧ OtherHatchesKept s (tripHatch s h) h ∧
    (tripHatch s h).drive.jog = s.drive.jog ∧ (tripHatch s h).arbiter = s.arbiter ∧ (tripHatch s h).supply = s.supply ∧
    ((tripHatch s h).agenda = s.agenda ∨ (tripHatch s h).agenda = .leave h :: s.agenda) := by
  by_cases hm : (s.ctx h).state.isMoving = true
  · by_cases hs : (s.ctx h).state = .stopping ∨ (s.ctx h).step = none
    · rw [tripHatch_stops hm hs]
      refine ⟨?_, heldFor_others s h _, by simp, by simp, by simp, .inl (by simp)⟩
      rw [heldFor_ctx, trippedCtx_moving hm]
      rcases hs with hs | hs <;> simp [hs]
    · obtain ⟨hns, hsome⟩ := not_or.mp hs
      obtain ⟨t, ht⟩ := Option.ne_none_iff_exists'.mp hsome
      have hoc : (s.ctx h).state = .opening ∨ (s.ctx h).state = .closing := by
        cases hst : (s.ctx h).state <;> simp_all [HatchState.isMoving]
      rw [tripHatch_moves ht hoc]
      refine ⟨?_, (OtherHatchesKept.dropStep s h).trans (heldFor_others _ h _), by simp [State.push], by simp [State.push], by simp [State.push], .inr (by simp [State.push])⟩
      rw [State.push_ctx, heldFor_ctx, dropStep_ctx, trippedCtx_moving hm, if_neg hns]
  · by_cases hr : Reclamping s h
    · rw [tripHatch_reclamps hr]
      refine ⟨?_, (OtherHatchesKept.dropStep s h).trans ((OtherHatchesKept.reclampEvent (dropStep s h) h .reclampKept).trans (.push _ h _)),
        rfl, rfl, rfl, .inr rfl⟩
      rw [trippedCtx_reclamping hr]
      exact dropStep_ctx s h
    · rw [tripHatch_rests (Bool.eq_false_iff.mpr hm) hr, trippedCtx_rests (Bool.eq_false_iff.mpr hm) hr]
      exact ⟨rfl, .refl s h, rfl, rfl, rfl, .inl rfl⟩

/-- An event that hands on a withdrawal at most, of the only entry. -/
theorem settle_leave_atMost {t : State} (hag : t.agenda = [] ∨ t.agenda = [.leave h]) (ho : OnlyEntryOf t h) :
    ∃ a : Arbiter, settle t = withArbiter { t with agenda := [] } a ∧ (t.agenda ≠ [] → a.pending = [] ∧ a.granted = []) := by
  rcases hag with hag | hag
  · refine ⟨t.arbiter, ?_, fun hne => absurd hag hne⟩
    rw [settle_nil hag, withArbiter, ← hag]
  · obtain ⟨a, heq, hempty⟩ := settle_removeEntry (s := { t with agenda := [] }) ho rfl
    refine ⟨a, ?_, fun _ => hempty⟩
    rw [← heq, removeEntry, State.push, List.append_nil, ← hag]

theorem takeTrip_noJog (hj : s.drive.jog = none) : takeTrip s h = tripHatch (cutHatch s h) h := by
  have : jogOn (cutHatch s h) h = false := by simp [jogOn, show (cutHatch s h).drive.jog = none from hj]
  simp [takeTrip, jogEndOn, this]

theorem takeTrip_outer (s : State) (h : Hatch) : (takeTrip s h).outer = (cutHatch s h).outer := by
  rw [takeTrip, tripHatch_outer, jogEndOn_outer]

/-- The trip cut leaves each channel of the hatch at rest with its deadtime started, whatever the trip does besides (R126). -/
theorem takeTrip_cut (s : State) (h : Hatch) (c : Channel) : ((takeTrip s h).channel h c).applied = 0 ∧
    ((takeTrip s h).channel h c).duty = 0 ∧ ((takeTrip s h).channel h c).working = none ∧
    ((takeTrip s h).channel h c).deadtime = s.params.deadtime := by
  have hplant := plant_of_outer (takeTrip_outer s h) h c
  rw [channel_cutHatch, if_pos rfl] at hplant
  exact ⟨congrArg ChannelRec.applied hplant, congrArg ChannelRec.duty hplant, congrArg ChannelRec.working hplant,
    congrArg ChannelRec.deadtime hplant⟩

theorem takeTrip_cut_ne (s : State) {h g : Hatch} (hg : g ≠ h) (c : Channel) :
    ((takeTrip s h).channel g c).plant = (s.channel g c).plant := by
  rw [plant_of_outer (takeTrip_outer s h), channel_cutHatch, if_neg (Ne.symm hg)]

end

end Sys2Proof.Machine

namespace Sys2Proof.Stops
open Sys2Proof Sys2Proof.Machine Sys2Proof.Safety

/-- Settles O45: the opening of the loop is the trip of its hatch, and the one entry of that hatch leaves. -/
theorem hatchLoopTrips : Obligations.HatchLoopTrips := by
  intro s h n ⟨hr, ha⟩ hn
  have hopen : loopIsOpen s n = s.stops.loopOpen.get h := by simp [loopIsOpen, loopHatch_succ hn]
  have hexec : s.stops.loopOpen.get h = false → exec (.loopOpens n) s = .next (settle (loopTrips n s)) := fun hclosed => by
    rw [show exec (.loopOpens n) s = execLoopOpens n s from rfl, execLoopOpens, hopen, hclosed]
    simp [hr]
  refine ⟨fun ho => ?_, fun hc hl => ?_, fun hc hl => ?_⟩
  · rw [show exec (.loopOpens n) s = execLoopOpens n s from rfl, execLoopOpens, hopen, ho, if_pos rfl]
  · have hopened : loopTrips n s = { s with stops := { s.stops with
        loopOpen := s.stops.loopOpen.set h true
        clearing := s.stops.clearing.set h 0 } } := by
      simp [loopTrips, loopHatch_succ hn, setLoop, hl]
    rw [hexec hc, hopened]
    exact congrArg Host.Outcome.next (settle_nil ha)
  · obtain ⟨u, hu⟩ : ∃ u : State, u = { s with stops := { s.stops with
        loopOpen := s.stops.loopOpen.set h true
        latch := s.stops.latch.set h true
        clearing := s.stops.clearing.set h 0 } } := ⟨_, rfl⟩
    have hopened : loopTrips n s = takeTrip u h := by
      simp [loopTrips, loopHatch_succ hn, setLoop, hl, hu]
    have houter : (settle (takeTrip u h)).outer = (takeTrip u h).outer := settle_outer _
    have houter' := houter.trans (takeTrip_outer u h)
    have hplant := fun g c => plant_of_outer houter g c
    refine ⟨_, by rw [hexec hc, hopened], ?_, fun c => ?_, fun g c hg => ?_, ?_, ?_, ?_, ?_, fun ho hj => ?_⟩
    · rw [stops_of_outer houter', hu]
      rfl
    · obtain ⟨happ, hduty, hwork, hdead⟩ := takeTrip_cut u h c
      exact ⟨(congrArg ChannelRec.applied (hplant h c)).trans happ, (congrArg ChannelRec.duty (hplant h c)).trans hduty,
        (congrArg ChannelRec.working (hplant h c)).trans hwork, ((congrArg ChannelRec.deadtime (hplant h c)).trans hdead).trans (by rw [hu]; rfl)⟩
    · have hsame : ((settle (takeTrip u h)).channel g c).plant = (s.channel g c).plant := by
        rw [hplant, takeTrip_cut_ne u hg, hu]
        rfl
      exact ⟨(congrArg ChannelRec.applied hsame).trans rfl, (congrArg ChannelRec.duty hsame).trans rfl,
        (congrArg ChannelRec.working hsame).trans rfl⟩
    · rw [holds_of_outer houter', hu]
      rfl
    · rw [junctions_of_outer houter', hu]
      rfl
    · rw [store_of_outer houter', hu]
      rfl
    · rw [retention_of_outer houter', hu]
      rfl
    · obtain ⟨w, hw⟩ : ∃ w, w = cutHatch u h := ⟨_, rfl⟩
      have htrip : takeTrip u h = tripHatch w h := by rw [hw]; exact takeTrip_noJog (by rw [hu]; exact hj)
      have hctxw : ∀ g, w.ctx g = s.ctx g := fun g => by rw [hw, hu]; rfl
      obtain ⟨hctx, hothers, -, harb, -, hagenda⟩ := tripHatch_spec w h
      have hwa : w.agenda = [] := by rw [hw, hu]; exact ha
      have hwo : OnlyEntryOf (tripHatch w h) h := by
        rw [OnlyEntryOf, harb, hw, hu]
        exact ho
      obtain ⟨a, hset, hempty⟩ := settle_leave_atMost (by rwa [hwa] at hagenda) hwo
      have hown : (settle (takeTrip u h)).ctx h = trippedCtx (w.ctx h) := by
        rw [htrip, hset]
        exact hctx
      refine ⟨fun g hg => ?_, fun hm => ?_, fun hrec => ⟨?_, ?_, fun id r hid => ?_⟩⟩
      · rw [htrip, hset, ← hctxw g]
        exact (hothers g hg).1
      · rw [hown, trippedCtx_moving (by rw [hctxw]; exact hm), hctxw]
      · rw [hown, trippedCtx_reclamping (by rw [Reclamping, hctxw]; exact hrec), hctxw]
      · rw [htrip, hset]
        refine hempty ?_
        rw [tripHatch_reclamps (by rw [Reclamping, hctxw]; exact hrec)]
        exact List.cons_ne_nil _ _
      · have hslot : (dropStep w h).slot id = some r := by rw [hw, hu]; exact hid
        rw [htrip, hset, withArbiter_slot, tripHatch_reclamps (by rw [Reclamping, hctxw]; exact hrec)]
        show (reclampEvent (dropStep w h) h .reclampKept).slot id = _
        rw [slot_reclampEvent, hslot]
        by_cases hh : cleatHatch id = h
        · by_cases hy : r.isHydraulic = true
          · obtain ⟨hserv, hman⟩ := isHydraulic_iff.mp hy
            by_cases ht : r.wanted = .taken <;> simp [hh, hy, hserv, hman, ht, CleatRec.reclampKept]
          · have hnot : ¬ (r.service = .inService ∧ r.manual = false ∧ r.wanted = .taken) := fun ⟨hserv, hman, _⟩ =>
              hy (isHydraulic_iff.mpr ⟨hserv, hman⟩)
            simp [hh, hy, hnot]
        · simp [hh]

end Sys2Proof.Stops
end

section
/-!
The ESTOP loop (R89, R125, R126): the trip of all nine hatches, and what the Arbiter hands to hatches that have no step any more.
-/

namespace Sys2Proof.Machine
open Sys2Proof Sys2Proof.Safety

/-! ### Pump sets under a latched ESTOP (R86, R89) -/

/-- With the ESTOP latch set, the pump sets stand in these states. -/
def Halted (st : PumpId → PumpState) (s : State) : Prop := s.stops.estopLatch = true ∧ ∀ k, (s.pump k).state = st k

/-- An allocation starts no pump set while the ESTOP latch is set (R86). -/
theorem halted_allocate {st : PumpId → PumpState} {s : State} (h : Halted st s) : Halted st (allocate s) := by
  have hnone : startDecision (afterScan s (allocScan s).1) (allocScan s).2 = none := by
    simp [startDecision, show (afterScan s (allocScan s).1).stops = s.stops from rfl, h.1]
  rw [allocate_of_scan (b := (allocScan s).1) (stopped := (allocScan s).2) rfl, hnone]
  exact h

theorem halted_handoffsKeep (st : PumpId → PumpState) : HandoffsKeep fun _ => Halted st where
  mono _ h := h
  onAgenda _ h := h
  onCtx _ h := h
  onState _ h := h
  onJudged _ h := h
  onReclampEvent _ _ _ h := h
  onSlot _ _ _ h := h
  onChannel _ h := h
  onChannels _ h := h
  onJog _ h := h
  onAllocate := halted_allocate
  onQueueStep _ _ _ h := by
    simp only [queueEntry]
    split
    · exact h
    · exact h
  onTakeLeave _ h := by
    simp only [takeLeave]
    split
    · exact halted_allocate h
    · exact h
  onTakeReclass _ h := by
    simp only [takeReclass]
    repeat' split
    · exact h
    · exact h
    · exact halted_allocate h
  onLink _ _ h := h

theorem halted_takeTrip {st : PumpId → PumpState} {s : State} (h : Hatch) (hs : Halted st s) : Halted st (takeTrip s h) :=
  (halted_handoffsKeep st).onTripHatch (S := ∅) h ((halted_handoffsKeep st).onJogEndOn (S := ∅) h hs)

theorem halted_tripAll {st : PumpId → PumpState} {s : State} (hs : List Hatch) (h : Halted st s) :
    Halted st (hs.foldr (fun h s => takeTrip s h) s) := by
  induction hs with
  | nil => exact h
  | cons g hs ih => exact halted_takeTrip g ih

theorem halted_pumpsChanged {st : PumpId → PumpState} {s : State} (h : Halted st s) : Halted st (pumpsChanged s) := by
  obtain ⟨v, heq, hpumps, -⟩ := pumpsChanged_eq s
  rw [heq]
  exact halted_allocate ⟨h.1, fun k => by rw [← h.2 k]; exact congrArg (fun t => (t.get k).state) hpumps⟩

/-- What a stop request leaves a pump set in (R83). -/
def stoppedState (p : Pump) : PumpState :=
  if p.state = .starting ∨ p.state = .running then
    if p.feedback then .stopping else if p.rated = 0 then .disabled else .off
  else p.state

theorem stopPump_eq (s : State) (k : PumpId) : ∃ p : Pump, stopPump s k = s.setPump k p ∧ p.state = stoppedState (s.pump k) := by
  simp only [stopPump, stoppedState, Bool.or_eq_true, decide_eq_true_eq]
  split
  · exact ⟨_, rfl, rfl⟩
  · exact ⟨s.pump k, (State.setPump_self s k).symm, rfl⟩

/-- The stop requests to the three sets leave each as R83 says. -/
theorem stopAll_state (s : State) : ∃ v : Supply, [(0 : PumpId), 1, 2].foldl stopPump s = { s with supply := v } ∧
    ∀ k, (v.pumps.get k).state = stoppedState (s.pump k) := by
  obtain ⟨p, hp, hstp⟩ := stopPump_eq s 0
  obtain ⟨q, hq, hstq⟩ := stopPump_eq (s.setPump 0 p) 1
  obtain ⟨r, hr, hstr⟩ := stopPump_eq ((s.setPump 0 p).setPump 1 q) 2
  rw [List.foldl_cons, hp, List.foldl_cons, hq, List.foldl_cons, hr]
  refine ⟨_, rfl, fun k => ?_⟩
  have hq' : (s.setPump 0 p).pump 1 = s.pump 1 := State.pump_setPump_ne _ _ (by decide)
  have hr' : ((s.setPump 0 p).setPump 1 q).pump 2 = s.pump 2 := by
    rw [State.pump_setPump_ne _ _ (by decide), State.pump_setPump_ne _ _ (by decide)]
  fin_cases k
  · simpa [State.setPump] using hstp
  · rw [hq'] at hstq
    simpa [State.setPump] using hstq
  · rw [hr'] at hstr
    simpa [State.setPump] using hstr

/-! ### Hatches without a step -/

/-- No hatch has a step, and no jog is in progress. -/
def Motionless (s : State) : Prop := s.drive.jog = none ∧ ∀ h, (s.ctx h).step = none

/-- A hand-off between the Arbiter and its receivers. -/
def Task.ofFlow : Task → Bool
  | .allocate | .leave _ | .grant _ _ | .shed _ | .reshare _ _ | .activated _ | .jogGrant | .jogShed => true
  | _ => false

theorem outcomeTasks_ofFlow (old granted : List Granted) (shed : List Hatch) : ∀ t ∈ outcomeTasks old granted shed, Task.ofFlow t = true := by
  have hshed : ∀ h, ∀ t ∈ shedOff old h, Task.ofFlow t = true := fun h t ht => by
    simp only [shedOff] at ht
    repeat' split at ht
    all_goals simp_all [Task.ofFlow]
  have hgrant : ∀ x, ∀ t ∈ handOff old x, Task.ofFlow t = true := fun x t ht => by
    simp only [handOff] at ht
    repeat' split at ht
    all_goals simp_all [Task.ofFlow]
  have hafter : ∀ x, ∀ t ∈ afterHandOff x, Task.ofFlow t = true := fun x t ht => by
    cases x <;> simp_all [afterHandOff, Task.ofFlow]
  intro t ht
  simp only [outcomeTasks, List.mem_append, List.mem_filter, List.mem_flatMap] at ht
  obtain ((⟨⟨h, -, ht⟩, -⟩ | ⟨x, -, ht⟩) | ⟨⟨h, -, ht⟩, -⟩) | ⟨y, -, ht⟩ := ht
  · exact hshed h t ht
  · exact hgrant x t ht
  · exact hshed h t ht
  · exact hafter y t ht

theorem allocate_ofFlow {s : State} (hs : ∀ t ∈ s.agenda, Task.ofFlow t = true) : ∀ t ∈ (allocate s).agenda, Task.ofFlow t = true := by
  rw [allocate_of_scan (b := (allocScan s).1) (stopped := (allocScan s).2) rfl]
  intro t ht
  have hagenda : (syncReduction (withStart (afterScan s (allocScan s).1)
      (startDecision (afterScan s (allocScan s).1) (allocScan s).2))).agenda = s.agenda := by
    cases startDecision (afterScan s (allocScan s).1) (allocScan s).2 <;> rfl
  simp only [State.push, hagenda, List.mem_append] at ht
  rcases ht with (ht | ht) | ht
  · exact outcomeTasks_ofFlow _ _ _ t ht
  · split at ht
    · rw [List.mem_singleton.mp ht]
      rfl
    · cases ht
  · exact hs t ht

/-- The part with other records of the supply and the Arbiter, and only hand-offs between the Arbiter and its receivers. -/
def FlowTail (s t : State) : Prop := FlowOnly s t ∧ ∀ x ∈ t.agenda, Task.ofFlow x = true

theorem FlowOnly.trans {s t u : State} (h : FlowOnly s t) (g : FlowOnly t u) : FlowOnly s u := by
  rw [FlowOnly] at g h ⊢
  rw [g, h]

/-- A receiver without a step takes nothing from the Arbiter. -/
theorem runTask_ofFlow {s : State} {t : Task} (hm : Motionless s) (ht : Task.ofFlow t = true)
    (hs : ∀ x ∈ s.agenda, Task.ofFlow x = true) : FlowTail s (runTask t s) := by
  obtain ⟨hj, hstep⟩ := hm
  have hsame : FlowTail s s := ⟨.refl s, hs⟩
  cases t with
  | allocate => exact ⟨allocate_flowOnly s, allocate_ofFlow hs⟩
  | leave h =>
    refine ⟨takeLeave_flowOnly s h, ?_⟩
    simp only [runTask, takeLeave]
    split
    · exact allocate_ofFlow hs
    · exact hs
  | grant h g => simpa only [runTask, takeGrant, hstep h] using hsame
  | shed h => simpa only [runTask, takeShed, hstep h] using hsame
  | reshare h g => simpa only [runTask, takeShare, hstep h] using hsame
  | activated h => simpa only [runTask, takeActivated, hstep h] using hsame
  | jogGrant => simpa only [runTask, takeJogGrant, hj] using hsame
  | jogShed => simpa only [runTask, takeJogShed, hj] using hsame
  | _ => cases ht

/-- With no step and no jog, the Arbiter's hand-offs stay with the Arbiter and the pump sets. -/
theorem drain_ofFlow {s : State} (n : Nat) (hm : Motionless s) (hs : ∀ x ∈ s.agenda, Task.ofFlow x = true) :
    FlowOnly s (drain n s) := by
  induction n generalizing s with
  | zero => exact .refl s
  | succ n ih =>
    cases ha : s.agenda with
    | nil => rw [drain_nil _ ha]; exact .refl s
    | cons t ts =>
      rw [drain_cons n ha]
      obtain ⟨hflow, htail⟩ := runTask_ofFlow (s := { s with agenda := ts }) hm (hs t (by simp [ha]))
        fun x hx => hs x (by simp [ha, List.mem_cons_of_mem t hx])
      have hmotion : Motionless (runTask t { s with agenda := ts }) := by
        refine ⟨by rw [hflow.drive]; exact hm.1, fun h => ?_⟩
        rw [State.ctx, hflow.hatches]
        exact hm.2 h
      exact (FlowOnly.trans (t := { s with agenda := ts }) rfl hflow).trans (ih hmotion htail)

/-! ### The trip of all hatches -/

theorem params_of_outer {s t : State} (h : t.outer = s.outer) : t.params = s.params := by
  rw [State.params, State.params, State.imageValid, State.imageValid, store_of_outer h]

/-- A trip leaves no step behind where every step belongs to a motion that a trip withdraws. -/
theorem trippedCtx_step {s : State} {h : Hatch} (hs : (s.ctx h).step ≠ none → Stoppable s h) : (trippedCtx (s.ctx h)).step = none := by
  by_cases hm : (s.ctx h).state.isMoving = true
  · rw [trippedCtx_moving hm]
    by_cases hst : (s.ctx h).state = .stopping
    · simp only [hst, if_true]
      by_contra hne
      rcases hs hne with h | h | h <;> simp_all [Reclamping]
    · simp only [hst, if_false]
  · by_cases hr : Reclamping s h
    · rw [trippedCtx_reclamping hr]
    · rw [trippedCtx_rests (Bool.eq_false_iff.mpr hm) hr]
      by_contra hne
      rcases hs hne with h | h | h
      · simp [h, HatchState.isMoving] at hm
      · simp [h, HatchState.isMoving] at hm
      · exact hr h

/-- The trips one after the other: each hatch as its own trip leaves it, and only withdrawals handed on. -/
theorem tripAll_spec {s : State} (hj : s.drive.jog = none) (ha : ∀ t ∈ s.agenda, Task.ofFlow t = true) {hs : List Hatch} (hn : hs.Nodup) :
    let u := hs.foldr (fun h s => takeTrip s h) s
    (∀ h, u.ctx h = if h ∈ hs then trippedCtx (s.ctx h) else s.ctx h) ∧ u.drive.jog = none ∧
      ∀ t ∈ u.agenda, Task.ofFlow t = true := by
  induction hs with
  | nil => exact ⟨fun h => by simp, hj, ha⟩
  | cons g hs ih =>
    obtain ⟨hg, hn⟩ := List.nodup_cons.mp hn
    obtain ⟨hctx, hjog, hflow⟩ := ih hn
    rw [List.foldr_cons, takeTrip_noJog hjog]
    obtain ⟨hown, hothers, hjog', -, -, hagenda⟩ := tripHatch_spec (cutHatch (hs.foldr (fun h s => takeTrip s h) s) g) g
    refine ⟨fun h => ?_, hjog'.trans hjog, fun t ht => ?_⟩
    · by_cases hh : h = g
      · subst hh
        rw [hown, show (cutHatch _ h).ctx h = _ from hctx h, if_neg hg, if_pos List.mem_cons_self]
      · rw [(hothers h hh).1, show (cutHatch _ g).ctx h = _ from hctx h]
        simp [hh]
    · rcases hagenda with hagenda | hagenda <;> rw [hagenda] at ht
      · exact hflow t ht
      · rcases List.mem_cons.mp ht with rfl | ht
        · rfl
        · exact hflow t ht

/-- The trip of all hatches cuts every channel (R126). -/
theorem tripAll_cut (s : State) (hs : List Hatch) : (hs.foldr (fun h s => takeTrip s h) s).params = s.params ∧
    (hs.foldr (fun h s => takeTrip s h) s).stops = s.stops ∧ ∀ h ∈ hs, ∀ c,
      let r := (hs.foldr (fun h s => takeTrip s h) s).channel h c
      r.applied = 0 ∧ r.duty = 0 ∧ r.working = none ∧ r.deadtime = s.params.deadtime := by
  induction hs with
  | nil => exact ⟨rfl, rfl, fun h hh => absurd hh List.not_mem_nil⟩
  | cons g hs ih =>
    obtain ⟨hparams, hstops, hcut⟩ := ih
    have houter := takeTrip_outer (hs.foldr (fun h s => takeTrip s h) s) g
    refine ⟨?_, (stops_of_outer houter).trans hstops, fun h hh c => ?_⟩
    · exact (params_of_outer houter).trans hparams
    · by_cases hg : h = g
      · subst hg
        obtain ⟨h1, h2, h3, h4⟩ := takeTrip_cut (hs.foldr (fun h s => takeTrip s h) s) h c
        exact ⟨h1, h2, h3, h4.trans (by rw [hparams])⟩
      · have hplant := takeTrip_cut_ne (hs.foldr (fun h s => takeTrip s h) s) hg c
        obtain ⟨h1, h2, h3, h4⟩ := hcut h ((List.mem_cons.mp hh).resolve_left hg) c
        exact ⟨(congrArg ChannelRec.applied hplant).trans h1, (congrArg ChannelRec.duty hplant).trans h2,
          (congrArg ChannelRec.working hplant).trans h3, (congrArg ChannelRec.deadtime hplant).trans h4⟩

end Sys2Proof.Machine

namespace Sys2Proof.Stops
open Sys2Proof Sys2Proof.Machine Sys2Proof.Safety

/-- Settles O46: the trips leave no step behind, so the hand-offs that follow stay with the Arbiter and the pump sets. -/
theorem estopTripsEverything : Obligations.EstopTripsEverything := by
  intro s ⟨hr, ha⟩ hopen
  have hexec : exec (.loopOpens 0) s = .next (settle (loopTrips 0 s)) := by
    rw [show exec (.loopOpens 0) s = execLoopOpens 0 s from rfl, execLoopOpens]
    simp [loopIsOpen, loopHatch, hopen, hr]
  refine ⟨fun hl => ?_, fun hl => ?_⟩
  · have hopened : loopTrips 0 s = { s with stops := { s.stops with estopOpen := true } } := by
      simp [loopTrips, loopHatch, setLoop, hl]
    rw [hexec, hopened]
    exact congrArg Host.Outcome.next (settle_nil ha)
  obtain ⟨v, hstop, hpumps⟩ := stopAll_state { s with stops := { s.stops with estopOpen := true, estopLatch := true } }
  obtain ⟨u, hu⟩ : ∃ u : State, u = { s with stops := { s.stops with estopOpen := true, estopLatch := true }, supply := v } := ⟨_, rfl⟩
  obtain ⟨w, hw⟩ : ∃ w, w = allHatches.foldr (fun h s => takeTrip s h) u := ⟨_, rfl⟩
  have htrips : loopTrips 0 s = w ∨ loopTrips 0 s = pumpsChanged w := by
    have hopened : loopTrips 0 s = estopTrip { s with stops := { s.stops with estopOpen := true } } := by
      simp [loopTrips, loopHatch, setLoop, hl]
    rw [hopened, estopTrip, hstop, ← hu, ← hw]
    exact ite_eq_or_eq _ _ _
  have houter : (loopTrips 0 s).stops = w.stops ∧ (∀ h c, ((loopTrips 0 s).channel h c) = w.channel h c) ∧ (loopTrips 0 s).hatches = w.hatches ∧
      (loopTrips 0 s).drive = w.drive ∧ ((∀ t ∈ w.agenda, Task.ofFlow t = true) → ∀ t ∈ (loopTrips 0 s).agenda, Task.ofFlow t = true) := by
    rcases htrips with h | h <;> rw [h]
    · exact ⟨rfl, fun _ _ => rfl, rfl, rfl, id⟩
    · obtain ⟨p, heq, -⟩ := pumpsChanged_eq w
      have hflow := allocate_flowOnly { w with supply := p }
      rw [heq]
      refine ⟨hflow.field State.stops fun _ _ _ => rfl, fun h c => by rw [State.channel, hflow.drive]; rfl, hflow.hatches, hflow.drive,
        allocate_ofFlow (s := { w with supply := p })⟩
  obtain ⟨hstops, hchan, hhatches, hdrive, hagenda⟩ := houter
  have hpumpsKept : Halted (fun k => stoppedState (s.pump k)) (settle (loopTrips 0 s)) := by
    refine (halted_handoffsKeep _).onSettle (S := ∅) ?_
    have hw' : Halted (fun k => stoppedState (s.pump k)) w := by
      rw [hw]
      refine halted_tripAll _ ?_
      rw [hu]
      exact ⟨rfl, hpumps⟩
    rcases htrips with h | h <;> rw [h]
    · exact hw'
    · exact halted_pumpsChanged hw'
  obtain ⟨hparams, hwstops, hcut⟩ := tripAll_cut u allHatches
  rw [← hw] at hwstops hcut
  have hsettled : (settle (loopTrips 0 s)).outer = (loopTrips 0 s).outer := settle_outer _
  have hfinal : (settle (loopTrips 0 s)).stops = { s.stops with estopOpen := true, estopLatch := true } := by
    rw [stops_of_outer hsettled, hstops, hwstops, hu]
  refine ⟨_, hexec, hfinal, fun h => ?_, fun h c => ?_, ?_, fun k => ?_, fun hj hall h => ?_⟩
  · simp [State.tripped, hfinal]
  · obtain ⟨h1, h2, h3, h4⟩ := hcut h (mem_allHatches h) c
    have hplant := plant_of_outer hsettled h c
    rw [hchan] at hplant
    exact ⟨(congrArg ChannelRec.applied hplant).trans h1, (congrArg ChannelRec.duty hplant).trans h2,
      (congrArg ChannelRec.working hplant).trans h3, ((congrArg ChannelRec.deadtime hplant).trans h4).trans (by rw [hu]; rfl)⟩
  · simp [State.alarm, hfinal]
  · have hk : ((settle (loopTrips 0 s)).pump k).state = stoppedState (s.pump k) := hpumpsKept.2 k
    rw [stoppedState] at hk
    refine ⟨fun hon => ?_, fun hr hs => ?_⟩
    · rw [hk, if_pos hon.symm]
    · rw [hk, if_neg (fun h => h.elim hs hr)]
  · obtain ⟨hctx, hjog, hflow⟩ := tripAll_spec (s := u) (by rw [hu]; exact hj) (by rw [hu]; simp [ha])
      nodup_allHatches
    rw [← hw] at hctx hjog hflow
    have hctx' : ∀ g, w.ctx g = trippedCtx (s.ctx g) := fun g => by
      rw [hctx, if_pos (mem_allHatches g), hu]
      rfl
    have hstep : ∀ g, (trippedCtx (s.ctx g)).step = none := fun g => trippedCtx_step (hall.1 g)
    have hmotion : Motionless (loopTrips 0 s) := ⟨by rw [hdrive]; exact hjog, fun g => by
      rw [State.ctx, hhatches]
      exact (congrArg HatchCtx.step (hctx' g)).trans (hstep g)⟩
    have hown : (settle (loopTrips 0 s)).ctx h = trippedCtx (s.ctx h) := by
      rw [State.ctx, settle, (drain_ofFlow 4096 hmotion (hagenda hflow)).hatches, hhatches]
      exact hctx' h
    rw [hown]
    refine ⟨fun hm => ?_, trippedCtx_reclamping, trippedCtx_rests⟩
    have hnone := hstep h
    rw [trippedCtx_moving hm] at hnone ⊢
    rw [show (if (s.ctx h).state = .stopping then (s.ctx h).step else none) = none from hnone]

end Sys2Proof.Stops
end

section
/-!
MOVE that is accepted (R62, R73, R74), and what joins the Arbiter with it.
-/

namespace Sys2Proof.Machine
open Sys2Proof Sys2Proof.Safety

/-! ### A joining step (R54, R96) -/

/-- The hatch with a step that has just joined. -/
def withStep (s : State) (h : Hatch) (name : StepName) : State :=
  s.updCtx h fun c => { c with
    step := some (joined name (classFor (s.ctx h) name) (if name.isRoll && heelGates s then .gated else .queued)) }

section
variable {s : State} {h : Hatch} {name : StepName}

theorem joinStep_gated (hg : (name.isRoll && heelGates s) = true) : joinStep s h name = withStep s h name := by
  simp only [joinStep, withStep, hg, if_true]
  rfl

theorem joinStep_queued (hg : (name.isRoll && heelGates s) = false) : joinStep s h name =
    queueEntry (withStep s h name) h (.step name) (classFor (s.ctx h) name) (s.params.stepN name) (s.params.stepM name) := by
  simp only [joinStep, withStep, hg, if_false, Bool.false_eq_true]
  rfl

theorem withStep_ctx (s : State) (h : Hatch) (name : StepName) : (withStep s h name).ctx h = { s.ctx h with
    step := some (joined name (classFor (s.ctx h) name) (if name.isRoll && heelGates s then .gated else .queued)) } := by
  simp [withStep]

theorem withStep_others (s : State) (h : Hatch) (name : StepName) : OtherHatchesKept s (withStep s h name) h := .updCtx s h _

@[simp] theorem withStart_hatches (s : State) (d : Option PumpId) : (withStart s d).hatches = s.hatches := by cases d <;> rfl
@[simp] theorem withStart_table (s : State) (d : Option PumpId) : (withStart s d).table = s.table := by cases d <;> rfl
@[simp] theorem withStart_drive (s : State) (d : Option PumpId) : (withStart s d).drive = s.drive := by cases d <;> rfl
@[simp] theorem withStart_link (s : State) (d : Option PumpId) : (withStart s d).link = s.link := by cases d <;> rfl
@[simp] theorem withStart_agenda (s : State) (d : Option PumpId) : (withStart s d).agenda = s.agenda := by cases d <;> rfl
@[simp] theorem withStart_outer (s : State) (d : Option PumpId) : (withStart s d).outer = s.outer := by
  cases d with
  | none => rfl
  | some k => exact startPump_outer s k

theorem startDecision_blocked (e : Entry) (he : s.stops.estopLatch = false) (hv : s.imageValid = true) :
    startDecision s (some e) = if anyPump s .starting = false then lowestOff s else none := by
  cases ha : anyPump s .starting <;> simp [startDecision, he, hv, ha]

/-- What a joining step that finds no flow leaves: the step, GATED or QUEUED with the one entry, and a set started (R54, R104). -/
structure Waits (s t : State) (h : Hatch) (name : StepName) : Prop where
  ctx : t.ctx h = (withStep s h name).ctx h
  others : OtherHatchesKept s t h
  drive : t.drive = s.drive
  table : t.table = s.table
  link : t.link = s.link
  agenda : t.agenda = s.agenda
  outer : t.outer = s.outer
  granted : t.arbiter.granted = []
  pending : t.arbiter.pending = if name.isRoll && heelGates s then []
    else [newJoin s h (.step name) (classFor (s.ctx h) name) (s.params.stepN name) (s.params.stepM name)]
  pumps : s.stops.estopLatch = false → s.imageValid = true → ∀ k, (t.pump k).state =
    if (name.isRoll && heelGates s) = false ∧ anyPump s .starting = false ∧ lowestOff s = some k then .starting else (s.pump k).state

theorem takes_joinStep_waits (hn : NoEntry s) (hc : s.arbiter.counter < 65535) (hf : s.supply.available < s.params.stepM name) :
    ∃ k t, k ≤ 2 ∧ Takes k (joinStep s h name) t ∧ Waits s t h name := by
  by_cases hg : (name.isRoll && heelGates s) = true
  · refine ⟨0, withStep s h name, Nat.zero_le 2, ?_, rfl, withStep_others s h name, rfl, rfl, rfl, rfl, rfl, hn.2, ?_, fun _ _ k => ?_⟩
    · rw [joinStep_gated hg]
      exact .refl _
    · rw [if_pos hg]
      exact hn.1
    · simp [hg]
      rfl
  · have hq : (name.isRoll && heelGates s) = false := Bool.eq_false_iff.mpr hg
    obtain ⟨a, k, hk, htakes, hp, hgr⟩ := queueEntry_waits (s := withStep s h name) h (.step name) (classFor (s.ctx h) name)
      (s.params.stepN name) (s.params.stepM name) hn hc hf
    refine ⟨k, _, hk, by rw [joinStep_queued hq]; exact htakes, ?_, ?_, by simp; rfl, by simp; rfl, by simp; rfl, by simp; rfl,
      by simp; rfl, hgr, ?_, fun he hv j => ?_⟩
    · simp [State.ctx]
    · exact (withStep_others s h name).trans (.of_fields (by simp) (by simp) (by simp))
    · rw [if_neg hg]
      exact hp
    · rw [show (State.pump (withArbiter _ a) j).state = _ from withStart_pump (withStep s h name) _ j,
        startDecision_blocked (s := withStep s h name) _ he hv]
      show (if (if anyPump s .starting = false then lowestOff s else none) = some j then PumpState.starting else (s.pump j).state) = _
      cases anyPump s .starting <;> simp [hq]

end

/-! ### An accepted MOVE (R73, R74) -/

/-- The hatch as it begins its motion, with its verdict decided afresh. -/
def begins (s : State) (h : Hatch) (st : HatchState) : State :=
  judged (s.updCtx h fun c => { c with state := st, held := none, next := none }) h

theorem begins_ctx (s : State) (h : Hatch) (st : HatchState) :
    (begins s h st).ctx h = { s.ctx h with state := st, held := none, next := none } := by
  simp [begins]

theorem begins_others (s : State) (h : Hatch) (st : HatchState) : OtherHatchesKept s (begins s h st) h :=
  (OtherHatchesKept.updCtx s h _).trans (.judged _ h)

theorem enterState_begins {s : State} {h : Hatch} {st : HatchState} (hs : st ≠ .closed) :
    enterState s h st none none = begins s h st := enterState_not_closed hs

theorem joinInPlace_idle {s : State} {h : Hatch} {name : StepName} (hs : (s.ctx h).step = none) :
    joinInPlace s h name = joinStep s h name := by
  simp only [joinInPlace, hs]

/-- The part with the answer to a MOVE at the end of what is handed on, and the hatch in its motion. -/
def moved (s : State) (f : RxFrame) (h : Hatch) (opening : Bool) (start : StepName) : State :=
  begins ((popped s).push [.answer f .accepted start.code]) h (if opening then .opening else .closing)

theorem acceptMove_eq {s : State} {h : Hatch} {opening : Bool} {start : StepName} (hs : (s.ctx h).step = none) :
    acceptMove s h opening start = joinStep (begins s h (if opening then .opening else .closing)) h start := by
  have hr : hasReclamp s h = false := by simp [hasReclamp, hs]
  have hne : (if opening then HatchState.opening else .closing) ≠ .closed := by cases opening <;> decide
  simp only [acceptMove, hr, Bool.and_false, Bool.false_eq_true, if_false]
  rw [enterState_begins hne, joinInPlace_idle (by rw [begins_ctx]; exact hs)]

theorem moveCode_accepted {s : State} {f : RxFrame} {h : Hatch} {opening : Bool} {start : StepName} (hm : Moves s f h opening start) :
    moveCode s f.station h opening = .accepted ∧ moveStart s h opening = some start := by
  obtain ⟨-, -, -, hmay, hv, hsense, htrip, hjog, hcase, hblock, hstep, -, -⟩ := hm
  have hmay' := moveAuthority_iff.mpr hmay
  have hr : hasReclamp s h = false := by simp [hasReclamp, hstep]
  cases opening with
  | true =>
    obtain ⟨hst, hmark, hfast, hopen⟩ := hcase
    rcases hst with hst | hst <;>
      simp [moveCode, moveBusy, moveAlready, moveStart, hmay', hv, hsense, htrip, hjog, hst, hmark, hfast, hopen, hblock]
  | false =>
    obtain ⟨hst, hclose⟩ := hcase
    rcases hst with hst | hst | ⟨hst, hver⟩
    · simp [moveCode, moveBusy, moveAlready, moveStart, hmay', hv, hsense, htrip, hjog, hst, hclose, hblock]
    · simp [moveCode, moveBusy, moveAlready, moveStart, hmay', hv, hsense, htrip, hjog, hst, hclose, hblock]
    · simp [moveCode, moveBusy, moveAlready, moveStart, hmay', hv, hsense, htrip, hjog, hst, hver, hr, hclose, hblock]

theorem exec_move {s : State} {f : RxFrame} {h : Hatch} {opening : Bool} {start : StepName} (hm : Moves s f h opening start) :
    exec .move s = .next (settle (joinStep (moved s f h opening start) h start)) := by
  obtain ⟨ho, hh, hd, -, -, -, -, -, -, -, hstep, -, -⟩ := id hm
  obtain ⟨hcode, hstart⟩ := moveCode_accepted hm
  rw [show exec .move s = _ from event_taken ho ho.ofKind]
  have hreq : moveRequest f (popped s) = acceptMove ((popped s).push [.answer f .accepted start.code]) h opening start := by
    have hhatch : moveHatch f h opening (popped s) = acceptMove ((popped s).push [.answer f .accepted start.code]) h opening start := by
      simp only [moveHatch, show moveCode (popped s) f.station h opening = _ from hcode, show moveStart (popped s) h opening = _ from hstart]
    cases opening <;> simp [moveRequest, hh, hd, hatchOf_succ, hhatch]
  rw [hreq, acceptMove_eq (by exact hstep)]
  rfl

end Sys2Proof.Machine

namespace Sys2Proof.Motions
open Sys2Proof Sys2Proof.Machine Sys2Proof.Safety

/-- Settles O28: the start step waits, and the answer follows the hand-offs. -/
theorem moveQueuesStartStep : Obligations.MoveQueuesStartStep := by
  intro s f h opening start hm hflow gated cls
  obtain ⟨ho, hh, -, -, hv, -, htrip, -, -, -, hstep, hn, hc⟩ := id hm
  obtain ⟨hlatch, hestop⟩ := Bool.or_eq_false_iff.mp htrip
  obtain ⟨u, hu⟩ : ∃ u, u = moved s f h opening start := ⟨_, rfl⟩
  obtain ⟨k, w, hk, htakes, hw⟩ := takes_joinStep_waits (s := u) (h := h) (name := start) (by rw [hu]; exact hn) (by rw [hu]; exact hc)
    (by rw [hu]; exact hflow)
  have hua : u.agenda = [.answer f .accepted start.code] := by
    rw [hu]
    exact congrArg (Task.answer f .accepted start.code :: ·) ho.agenda
  have hset := settle_answered htakes (by omega) (hw.agenda.trans hua)
  have hctx : w.ctx h = { s.ctx h with
      state := if opening then .opening else .closing
      held := none
      next := none
      step := some (joined start cls (if gated then .gated else .queued)) } := by
    rw [hw.ctx, withStep_ctx, hu, moved, begins_ctx]
    rfl
  refine ⟨replyStanding w.idle f .accepted start.code, by rw [exec_move hm, ← hu, hset], hctx, ?_, ?_, hw.granted, ?_, fun j => ?_, ?_⟩
  · have hothers : OtherHatchesKept s w h := by
      refine .trans ?_ hw.others
      rw [hu]
      exact begins_others _ _ _
    exact hothers
  · refine sameElsewhere_of_outer (hw.outer.trans ?_)
    rw [hu]
    rfl
  · have hcls : classFor (u.ctx h) start = cls := by
      rw [hu, moved, begins_ctx]
      rfl
    refine hw.pending.trans ?_
    rw [hcls, hu]
    rfl
  · refine (hw.pumps (by rw [hu]; exact hestop) (by rw [hu]; exact hv) j).trans ?_
    rw [hu]
    rfl
  · show w.link.tx ++ _ = _
    rw [standingData_hatch (.inl ho.2.1) hh, hw.link, hu, State.idle_ctx, hctx]
    rfl

end Sys2Proof.Motions
end

section
/-!
MOVE with flow at hand: the start step is granted at once, and its channels take their targets (R53, R55, R62 to R66).
-/

namespace Sys2Proof.Machine
open Sys2Proof Sys2Proof.Safety

/-! ### Start steps (R62) -/

theorem openingStart_cases {s : State} {h : Hatch} {start : StepName} (ho : openingStart s h = some start) :
    (start = .park ∧ bothJacks s h .lowered = false) ∨ (start = .release ∧ allHydraulic s h .released = false) ∨
      (start = .rollOut ∧ bothStowed s h = false) ∨ (start = .lift ∧ bothJacks s h .lifted = false) := by
  simp only [openingStart] at ho
  repeat' split at ho
  all_goals simp_all

theorem closingStart_cases {s : State} {h : Hatch} {start : StepName} (hc : closingStart s h = start) :
    start = .engage ∨ (start = .lower ∧ bothJacks s h .lowered = false) ∨
      (start = .rollIn ∧ bothClosed s h = false) ∨ (start = .unpark ∧ bothJacks s h .lifted = false) := by
  simp only [closingStart] at hc
  repeat' split at hc
  all_goals simp_all

/-- A step that moves something: its done condition is not met as it starts (R52). -/
def Undone (s : State) (h : Hatch) : StepName → Prop
  | .release => allHydraulic s h .released = false
  | .lift | .unpark => bothJacks s h .lifted = false
  | .rollOut => bothStowed s h = false
  | .park | .lower => bothJacks s h .lowered = false
  | .rollIn => bothClosed s h = false
  | .engage => allHydraulic s h .engaged = false
  | .reclamp => False

theorem undone_openingStart {s : State} {h : Hatch} {start : StepName} (ho : openingStart s h = some start) : Undone s h start := by
  rcases openingStart_cases ho with ⟨rfl, h⟩ | ⟨rfl, h⟩ | ⟨rfl, h⟩ | ⟨rfl, h⟩ <;> exact h

theorem undone_closingStart {s : State} {h : Hatch} {start : StepName} (hc : closingStart s h = start)
    (he : start = .engage → allHydraulic s h .engaged = false) : Undone s h start := by
  rcases closingStart_cases hc with rfl | ⟨rfl, h⟩ | ⟨rfl, h⟩ | ⟨rfl, h⟩
  · exact he rfl
  all_goals exact h

/-! ### The first grant of a start step (R55) -/

/-- The step as its first grant makes it. -/
def startedStep (s : State) (h : Hatch) (name : StepName) (g : Grant) : StepCtx :=
  { joined name (classFor (s.ctx h) name) .active with
    started := true
    grant := some g
    arrived := if name.isRoll then ⟨inRollBand s h name .port, inRollBand s h name .stbd⟩ else ⟨false, false⟩ }

/-- The part with a step of the hatch ACTIVE, and its targets written. -/
def activated (s : State) (h : Hatch) (t : StepCtx) : State := writeTargets (s.updCtx h fun c => { c with step := some t }) h

section
variable {s : State} {h : Hatch} {name : StepName} {g : Grant}

theorem activated_ctx (s : State) (h : Hatch) (t : StepCtx) : (activated s h t).ctx h = { s.ctx h with step := some t } := by
  simp [activated]

theorem activated_others (s : State) (h : Hatch) (t : StepCtx) : OtherHatchesKept s (activated s h t) h :=
  (OtherHatchesKept.updCtx s h _).trans (.writeTargets _ h)

/-- The targets of an ACTIVE step (R53). -/
theorem writeTargets_active {t : StepCtx} (hs : (s.ctx h).step = some t) (hp : t.phase = .active) (c : Channel) :
    (writeTargets s h).channel h c =
      (s.channel h c).sequencerWrites ((stepTarget s h t c).getD ⟨(s.channel h c).sequencerTarget.dir, 0⟩) := by
  rw [writeTargets, State.channel_updChannels]
  simp only [hs, hp, if_true]

theorem activated_target (s : State) (h : Hatch) {t : StepCtx} (hp : t.phase = .active) (c : Channel) :
    ((activated s h t).channel h c).sequencerTarget = (stepTarget s h t c).getD ⟨(s.channel h c).sequencerTarget.dir, 0⟩ ∧
    ((activated s h t).channel h c).applied = (s.channel h c).applied ∧
    ((s.channel h c).jogMaster = false → ((activated s h t).channel h c).target = ((activated s h t).channel h c).sequencerTarget) := by
  rw [activated, writeTargets_active (by rw [State.ctx_updCtx]) hp]
  refine ⟨rfl, rfl, fun hj => ?_⟩
  exact if_neg (by rw [State.updCtx_channel, hj]; decide)

/-- The grant of a step that has just joined. -/
theorem takeGrant_joined (hs : ((withStep s h name).ctx h).step = some (joined name (classFor (s.ctx h) name) .queued))
    (hr : name ≠ .reclamp) (a : Arbiter) (ts : List Task) :
    takeGrant ((withArbiter (withStep s h name) a).push ts) h g = (activated (withArbiter s a) h (startedStep s h name g)).push ts := by
  have hs' : (((withArbiter (withStep s h name) a).push ts).ctx h).step = some (joined name (classFor (s.ctx h) name) .queued) := hs
  have hfirst : firstGrant ((withArbiter (withStep s h name) a).push ts) h (joined name (classFor (s.ctx h) name) .queued) =
      { startedStep s h name g with phase := .queued, grant := none } := by
    simp only [firstGrant, joined, startedStep, hr, if_false, Bool.false_eq_true]
    rfl
  have hnot : (!(joined name (classFor (s.ctx h) name) .queued).started && decide (name = .reclamp)) = false := by simp [hr]
  simp only [takeGrant, hs', hfirst]
  rw [if_pos (by rfl), if_neg (by exact Bool.eq_false_iff.mp hnot)]
  have htwice : (withStep s h name).updCtx h (fun c => { c with step := some (startedStep s h name g) }) =
      s.updCtx h fun c => { c with step := some (startedStep s h name g) } := State.updCtx_updCtx s h _ _
  exact congrArg (fun u => (withArbiter (writeTargets u h) a).push ts) htwice

theorem activationFault_none (hu : sensingUsable s h = true) (n : StepName) : activationFault s h n = none := by
  simp only [sensingUsable, Junction.usable, Two.both, Bool.and_eq_true, bne_iff_ne] at hu
  obtain ⟨-, ⟨⟨hp, -⟩, hpf⟩, ⟨hs, -⟩, hsf⟩ := hu
  simp [activationFault, Two.either, Option.isSome_iff_ne_none.mp hp, Option.isSome_iff_ne_none.mp hs, hpf, hsf]

/-- A step that has just started is not done, where its work remains. -/
theorem isDone_started (hu : Undone s h name) {u : State} (ht : u.table = s.table) (hj : u.junctions = s.junctions) :
    isDone u h (startedStep s h name g) = false := by
  have hall : ∀ v, allHydraulic u h v = allHydraulic s h v := fun v => by simp only [allHydraulic, hatchRecords, ht]
  have hjacks : ∀ v, bothJacks u h v = bothJacks s h v := fun v => by simp only [bothJacks, hj]
  have hroll : ∀ n : StepName, n.isRoll = true → (inRollBand s h n .port && inRollBand s h n .stbd) = false →
      isDone u h (startedStep s h n g) = false := fun n hn hband => by
    cases n with
    | rollOut | rollIn =>
      simp only [isDone, startedStep, joined, hn, if_true]
      rw [hband]
      rfl
    | _ => cases hn
  cases name with
  | release | engage => exact (hall _).trans hu
  | lift | unpark | park | lower => exact (hjacks _).trans hu
  | rollOut => exact hroll _ rfl hu
  | rollIn => exact hroll _ rfl hu
  | reclamp => exact hu.elim

theorem takeActivated_started (hu : Undone s h name) (hsense : sensingUsable s h = true)
    (hheel : name.isRoll = true → heelStops s = false) {u : State} (hs : (u.ctx h).step = some (startedStep s h name g))
    (ho : u.outer = s.outer) (ht : u.table = s.table) : takeActivated u h = u := by
  have hj : u.junctions = s.junctions := junctions_of_outer ho
  have hfault : activationFault u h name = none := activationFault_none (by rw [sensingUsable, hj]; exact hsense) name
  have hstop : (name.isRoll && heelStops u) = false := by
    cases hr : name.isRoll with
    | false => rfl
    | true =>
      have := hheel hr
      simp only [heelStops, heelWithin, params_of_outer ho, analog_of_outer ho] at this ⊢
      exact this
  have hdone := isDone_started (g := g) hu ht hj
  simp only [takeActivated, hs]
  rw [if_pos (by rfl)]
  have hname : (startedStep s h name g).name = name := rfl
  rw [hname, hfault]
  simp only [hstop, Bool.false_eq_true, if_false, doneTest, hs, hdone, Bool.and_false]

/-- A joining step that finds its flow is ACTIVE at once, with its targets written (R53, R55). -/
theorem takes_joinStep_runs (hn : NoEntry s) (hc : s.arbiter.counter < 65535) (hf : s.params.stepM name ≤ s.supply.available)
    (hmn : s.params.stepM name ≤ s.params.stepN name) (hq : (name.isRoll && heelGates s) = false) (hu : Undone s h name)
    (hsense : sensingUsable s h = true) (hheel : name.isRoll = true → heelStops s = false) : ∃ a : Arbiter,
      let e := newJoin s h (.step name) (classFor (s.ctx h) name) (s.params.stepN name) (s.params.stepM name)
      let g : Grant := ⟨min e.n s.supply.available, rollOf e (min e.n s.supply.available)⟩
      Takes 3 (joinStep s h name) (activated (withArbiter s a) h (startedStep s h name g)) ∧ a.pending = [] ∧ a.granted = [⟨e, g⟩] := by
  obtain ⟨a, htakes, hp, hg⟩ := queueEntry_granted (s := withStep s h name) h (.step name) (classFor (s.ctx h) name)
    (s.params.stepN name) (s.params.stepM name) hn hc hf hmn
  have hr : name ≠ .reclamp := fun h => by rw [h] at hu; exact hu
  refine ⟨a, ?_, hp, hg⟩
  rw [joinStep_queued hq]
  obtain ⟨g, hgdef⟩ : ∃ g : Grant, g = ⟨min (s.params.stepN name) s.supply.available,
    rollOf (newJoin s h (.step name) (classFor (s.ctx h) name) (s.params.stepN name) (s.params.stepM name))
      (min (s.params.stepN name) s.supply.available)⟩ := ⟨_, rfl⟩
  have hgrant := Takes.push (withArbiter (withStep s h name) a) (.grant h g) [.activated h]
  have hstep : ((withStep s h name).ctx h).step = some (joined name (classFor (s.ctx h) name) .queued) := by
    rw [withStep_ctx]
    simp only [hq, Bool.false_eq_true, if_false]
  rw [show runTask (.grant h g) _ = takeGrant ((withArbiter (withStep s h name) a).push [.activated h]) h g from rfl,
    takeGrant_joined hstep hr] at hgrant
  have hact := Takes.push (activated (withArbiter s a) h (startedStep s h name g)) (.activated h) []
  have hstay : takeActivated (activated (withArbiter s a) h (startedStep s h name g)) h =
      activated (withArbiter s a) h (startedStep s h name g) :=
    takeActivated_started (s := s) hu hsense hheel (by rw [activated_ctx]) (by rw [activated, writeTargets_outer]; rfl) rfl
  rw [State.push_nil, show runTask (.activated h) (activated (withArbiter s a) h (startedStep s h name g)) = _ from hstay] at hact
  rw [hgdef] at hgrant hact
  exact (htakes.trans hgrant).trans hact

/-- The roll command of a step that has just started, inside the heel limit (R63 to R65). -/
theorem panelCommand_started (hroll : name.isRoll = true) (hheel : heelGates s = false) (hsense : sensingUsable s h = true)
    {v : State} (hj : v.junctions = s.junctions) (hp : v.params = s.params) (ha : v.analog = s.analog) (p : Panel) :
    panelCommand v h (startedStep s h name g) p =
      if inRollBand s h name p then 0
      else if name = .rollIn ∧ p ≠ s.params.lead h ∧ inRollBand s h name (s.params.lead h) = false ∧
        (s.panel h p).position.getD 0 ≤ s.params.wait then 0
      else if inSlowZone s h p (name = .rollOut) = true ∨ windCreeps s = true then min (g.roll.getD 0) s.params.creep
      else g.roll.getD 0 := by
  have harr : ∀ q, (startedStep s h name g).arrived.get q = inRollBand s h name q := fun q => by
    cases q <;> simp [startedStep, hroll, Two.get]
  have hname : (startedStep s h name g).name = name := rfl
  have hg : (startedStep s h name g).grant = some g := rfl
  have hpos : ∃ x, (s.panel h p).position = some x := by
    simp only [sensingUsable, Junction.usable, Two.both, Bool.and_eq_true] at hsense
    obtain ⟨-, ⟨⟨hport, -⟩, -⟩, ⟨hstbd, -⟩, -⟩ := hsense
    cases p
    · exact Option.isSome_iff_exists.mp hport
    · exact Option.isSome_iff_exists.mp hstbd
  obtain ⟨x, hx⟩ := hpos
  have hpanel : v.panel h p = s.panel h p := by rw [State.panel, hj]; rfl
  have hzone : inSlowZone v h p (name = .rollOut) = inSlowZone s h p (name = .rollOut) := by
    simp only [inSlowZone, hpanel, hp]
  have hwind : windCreeps v = windCreeps s := by simp only [windCreeps, hp, ha]
  have hgate : heelGates v = false := by
    rw [← hheel]
    simp only [heelGates, heelWithin, hp, ha]
  simp only [panelCommand, trailingWaits, creeps, harr, hname, hg, hpanel, hp, hzone, hwind, hgate, hx, Option.bind_some,
    Option.getD_some, Bool.or_false]
  cases inRollBand s h name p <;> simp [and_assoc]

end
end Sys2Proof.Machine

namespace Sys2Proof.Motions
open Sys2Proof Sys2Proof.Machine Sys2Proof.Safety

/-- Settles O29: the grant makes the start step ACTIVE, and nothing of the hatch is done yet. -/
theorem moveWithFlowDrivesValves : Obligations.MoveWithFlowDrivesValves := by
  intro s f h opening start hm hflow hmn hengage hheel share roll arrives lead command
  obtain ⟨ho, hh, -, -, hv, hsense, htrip, -, hcase, -, hstep, hn, hc⟩ := id hm
  obtain ⟨u, hu⟩ : ∃ u, u = moved s f h opening start := ⟨_, rfl⟩
  have hundone : Undone s h start := by
    cases opening with
    | true => exact undone_openingStart hcase.2.2.2
    | false => exact undone_closingStart hcase.2 hengage
  have hgate : (start.isRoll && heelGates s) = false := by
    cases hr : start.isRoll with
    | false => rfl
    | true => exact (hheel hr).1
  obtain ⟨a, htakes, hp, hg⟩ := takes_joinStep_runs (s := u) (h := h) (name := start) (by rw [hu]; exact hn) (by rw [hu]; exact hc)
    (by rw [hu]; exact hflow) (by rw [hu]; exact hmn) (by rw [hu]; exact hgate) (by rw [hu]; cases start <;> exact hundone)
    (by rw [hu]; exact hsense) (by rw [hu]; exact fun hr => (hheel hr).2)
  have hua : u.agenda = [.answer f .accepted start.code] := by
    rw [hu]
    exact congrArg (Task.answer f .accepted start.code :: ·) ho.agenda
  have hset := settle_answered htakes (by omega) hua
  have huouter : u.junctions = s.junctions ∧ u.params = s.params ∧ u.analog = s.analog ∧ ∀ c, u.channel h c = s.channel h c := by
    rw [hu]
    exact ⟨rfl, rfl, rfl, fun _ => rfl⟩
  obtain ⟨hjunc, hparams, hanalog, hchan⟩ := huouter
  obtain ⟨g, hgdef⟩ : ∃ g : Grant, g = ⟨share, if start.isRoll then some roll else none⟩ := ⟨_, rfl⟩
  have hgrant : (⟨min (u.params.stepN start) u.supply.available,
      rollOf (newJoin u h (.step start) (classFor (u.ctx h) start) (u.params.stepN start) (u.params.stepM start))
        (min (u.params.stepN start) u.supply.available)⟩ : Grant) = g := by
    rw [hgdef, hu]
    cases start <;> rfl
  obtain ⟨w, hw⟩ : ∃ w, w = activated (withArbiter u a) h (startedStep u h start g) := ⟨_, rfl⟩
  have hset : settle (joinStep u h start) = replyStanding w.idle f .accepted start.code := by
    rw [hw, ← hgrant]
    exact settle_answered htakes (by omega) hua
  have hctx : w.ctx h = { u.ctx h with step := some (startedStep u h start g) } := by
    rw [hw, activated_ctx]
    rfl
  have huctx : u.ctx h = { s.ctx h with state := if opening then .opening else .closing, held := none, next := none } := by
    rw [hu, moved, begins_ctx]
    rfl
  have harr : ∀ p, inRollBand u h start p = arrives p := fun p => by rw [hu]; rfl
  have htarget := fun c => activated_target (withArbiter u a) h (t := startedStep u h start g) rfl c
  refine ⟨replyStanding w.idle f .accepted start.code, by rw [exec_move hm, ← hu, hset], ?state, ?step, ?others, ?pending, fun c => ?target,
    fun c => ?applied⟩
  case state =>
    show (w.ctx h).state = _
    rw [hctx, huctx]
  case step =>
    show (w.ctx h).step = _
    rw [hctx, startedStep, huctx, hgdef, harr, harr]
    rfl
  case others =>
    have hothers : OtherHatchesKept s w h := by
      rw [hw, hu]
      exact (begins_others _ _ _).trans ((OtherHatchesKept.withArbiter _ a h).trans (activated_others _ h _))
    exact hothers
  case pending =>
    show w.arbiter.pending = []
    rw [hw]
    exact hp
  case target =>
    show (w.channel h c).sequencerTarget = _
    rw [hw, (htarget c).1, withArbiter_channel, hchan]
    have hcommand : start.isRoll = true → ∀ p, panelCommand (withArbiter u a) h (startedStep u h start g) p = command p := fun hr p => by
      rw [panelCommand_started (v := withArbiter u a) (s := u) hr (by rw [hu]; exact (hheel hr).1) (by rw [hu]; exact hsense) rfl rfl rfl]
      simp only [harr, State.panel, hjunc, hparams, inSlowZone, windCreeps, hanalog, hgdef, hr, if_true, Option.getD_some]
      rfl
    cases start with
    | rollOut =>
      cases c with
      | rollPort => exact congrArg (Target.mk .a) (hcommand rfl .port)
      | rollStbd => exact congrArg (Target.mk .a) (hcommand rfl .stbd)
      | _ => rfl
    | rollIn =>
      cases c with
      | rollPort => exact congrArg (Target.mk .b) (hcommand rfl .port)
      | rollStbd => exact congrArg (Target.mk .b) (hcommand rfl .stbd)
      | _ => rfl
    | _ => cases c <;> rfl
  case applied =>
    obtain ⟨-, happ, hmaster⟩ := htarget c
    rw [← hw, withArbiter_channel, hchan] at happ hmaster
    exact ⟨happ, hmaster⟩

end Sys2Proof.Motions
end

section
/-!
HALT of ALL (R75), and the limit of hand-offs of one event (assumption log 1): an Arbiter that holds more entries of one hatch than
there are hand-offs to an event keeps them past a HALT.
-/

namespace Sys2Proof.Machine
open Sys2Proof Sys2Proof.Safety

/-! ### What a HALT leaves to its hand-offs -/

/-- The Arbiter and the supply are as before, and still no jog is in progress. -/
def FlowKept (s t : State) : Prop := t.arbiter = s.arbiter ∧ t.supply = s.supply ∧ t.drive.jog = s.drive.jog

namespace FlowKept
variable {s t u : State}

theorem refl (s : State) : FlowKept s s := ⟨rfl, rfl, rfl⟩

theorem trans (h : FlowKept s t) (g : FlowKept t u) : FlowKept s u := by
  obtain ⟨ha, hs, hj⟩ := h
  obtain ⟨ha', hs', hj'⟩ := g
  exact ⟨ha'.trans ha, hs'.trans hs, hj'.trans hj⟩

theorem updCtx (s : State) (h : Hatch) (f : HatchCtx → HatchCtx) : FlowKept s (s.updCtx h f) := refl s

theorem push (s : State) (ts : List Task) : FlowKept s (s.push ts) := refl s

theorem reclass (s : State) (h : Hatch) : FlowKept s (reclass s h) := by
  simp only [Machine.reclass]
  repeat' split
  all_goals exact ⟨rfl, rfl, rfl⟩

theorem clearMark (s : State) (h : Hatch) : FlowKept s (clearMark s h) := by
  simp only [Machine.clearMark]
  split
  · exact trans (t := (s.updCtx h fun x => { x with mark := false }).push [.reclampTest h]) ⟨rfl, rfl, rfl⟩ (reclass _ h)
  · exact refl s

theorem dropStep (s : State) (h : Hatch) : FlowKept s (dropStep s h) := ⟨rfl, rfl, rfl⟩

theorem stopStep (s : State) (h : Hatch) (n : NextState) : FlowKept s (stopStep s h n) := by
  simp only [Machine.stopStep, enterStopping]
  rw [enterState_not_closed (by decide)]
  split <;> exact ⟨rfl, rfl, rfl⟩

theorem withdraw (s : State) (h : Hatch) : FlowKept s (withdraw s h) := by
  simp only [Machine.withdraw]
  split <;> exact ⟨rfl, rfl, rfl⟩

theorem haltMotion (s : State) (h : Hatch) : FlowKept s (haltMotion s h) := by
  simp only [Machine.haltMotion]
  split
  · exact stopStep s h _
  · exact stopStep s h _
  · split
    · exact (withdraw s h).trans ⟨rfl, rfl, rfl⟩
    · exact refl s
  all_goals exact ⟨rfl, rfl, rfl⟩

theorem haltHatch (h : Hatch) (hj : s.drive.jog = none) : FlowKept s (haltHatch h s) := by
  have hclear := clearMark s h
  have hno : jogOn (Machine.clearMark s h) h = false := by simp [jogOn, hclear.2.2, hj]
  simp only [Machine.haltHatch, jogEndOn, hno, Bool.false_eq_true, if_false]
  exact hclear.trans (haltMotion _ h)

theorem haltAll (hs : List Hatch) (hj : s.drive.jog = none) : FlowKept s (hs.foldr Machine.haltHatch s) := by
  induction hs with
  | nil => exact refl s
  | cons h hs ih => exact ih.trans (haltHatch h (ih.2.2.trans hj))

end FlowKept

/-- New shares at the head of what is handed on leave the Arbiter and the Securing Table as they are. -/
theorem drain_leading_reshares {s : State} (n : Nat) {rs ts : List Task} (ha : s.agenda = rs ++ ts) (hn : n ≤ rs.length)
    (hr : ∀ t ∈ rs, ∃ h g, t = .reshare h g) : (drain n s).arbiter = s.arbiter ∧ (drain n s).table = s.table := by
  induction n generalizing s rs with
  | zero => exact ⟨rfl, rfl⟩
  | succ n ih =>
    cases rs with
    | nil => simp at hn
    | cons t rs =>
      obtain ⟨h, g, rfl⟩ := hr t List.mem_cons_self
      rw [drain_cons n (show s.agenda = .reshare h g :: (rs ++ ts) from ha)]
      have hshare : (takeShare { s with agenda := rs ++ ts } h g).agenda = rs ++ ts ∧
          (takeShare { s with agenda := rs ++ ts } h g).arbiter = s.arbiter ∧
          (takeShare { s with agenda := rs ++ ts } h g).table = s.table := by
        simp only [takeShare]
        repeat' split
        all_goals exact ⟨rfl, rfl, rfl⟩
      obtain ⟨hagenda, harbiter, htable⟩ := hshare
      obtain ⟨ha', ht'⟩ := ih (s := takeShare { s with agenda := rs ++ ts } h g) hagenda (by simpa using hn)
        fun t ht => hr t (List.mem_cons_of_mem _ ht)
      exact ⟨ha'.trans harbiter, ht'.trans htable⟩

/-! ### An Arbiter with many entries of one hatch -/

/-- A granted entry of a hatch whose share stands at 0. -/
def idleGrant (h : Hatch) : Granted := ⟨⟨h, .step .lift, .normal, 10, 0, 1, false⟩, ⟨0, none⟩⟩

/-- An entry of H2 with the whole of its N. -/
def reshared : Granted := { idleGrant 1 with grant := ⟨10, none⟩ }

/-- H1 and H2 OPENING with no step; the Arbiter holds one entry of H1 and `n` entries of H2, and BRIDGE asks for HALT of ALL. -/
def crowded (n : Nat) : State :=
  { State.reset with
    store := { State.reset.store with image := .valid }
    hatches := (State.reset.hatches.upd 0 fun c => { c with state := .opening }).upd 1 fun c => { c with state := .opening }
    arbiter := { State.reset.arbiter with granted := idleGrant 0 :: List.replicate n (idleGrant 1) }
    supply := { State.reset.supply with available := 10 * n }
    link := { State.reset.link with rx := [⟨0, eightBytes [5, 9, 0]⟩] } }

theorem withShares_replicate (n : Nat) (hn : n ≠ 0) : withShares (10 * n) (List.replicate n (idleGrant 1)) =
    List.replicate n reshared := by
  have hshare : shareOf (10 * n) (List.replicate n (idleGrant 1)) (idleGrant 1).entry = 10 := by
    simp [shareOf, sumM, sumE, idleGrant, hn, Nat.mul_comm]
  rw [withShares, List.map_replicate, hshare]
  rfl

/-- Every entry of the crowd is handed its new share. -/
theorem outcomeTasks_replicate (n : Nat) (hn : n ≠ 0) : n ≤
    (outcomeTasks (List.replicate n (idleGrant 1)) (List.replicate n reshared) []).length := by
  obtain ⟨m, rfl⟩ : ∃ m, n = m + 1 := ⟨n - 1, by omega⟩
  have hoff : handOff (List.replicate (m + 1) (idleGrant 1)) reshared =
      [.reshare 1 ⟨10, none⟩] := by
    simp [handOff, reshared, idleGrant, List.replicate_succ]
  have hlen : ((List.replicate (m + 1) reshared).flatMap
      (handOff (List.replicate (m + 1) (idleGrant 1)))).length = m + 1 := by
    simp [List.length_flatMap, hoff]
  simp only [outcomeTasks, List.length_append]
  omega

/-- A withdrawal of H1 from the crowd, with no more than `n` hand-offs after it, ends among the new shares of the crowd. -/
theorem drain_crowded {k n : Nat} (hk : k ≤ n) (hne : n ≠ 0) {w : State} {ts : List Task} (ha : w.agenda = .leave 0 :: ts)
    (hw : FlowKept (crowded n) w) : (drain (k + 1) w).arbiter.granted = List.replicate n reshared ∧ (drain (k + 1) w).table = w.table := by
  obtain ⟨harb, hsup, -⟩ := hw
  obtain ⟨v, hv⟩ : ∃ v : State, v = { w with
      agenda := ts
      arbiter := { w.arbiter with pending := [], granted := List.replicate n (idleGrant 1) } } := ⟨_, rfl⟩
  have hleave : takeLeave { w with agenda := ts } 0 = allocate v := by
    have hfilter : (idleGrant 0 :: List.replicate n (idleGrant 1)).filter (fun g => g.entry.hatch != 0) = List.replicate n (idleGrant 1) := by
      simp [idleGrant]
    have hhas : w.arbiter.has 0 = true := by
      rw [harb]
      simp [crowded, Arbiter.has, idleGrant]
    rw [takeLeave, if_pos hhas, hv]
    simp only [harb]
    rw [show (crowded n).arbiter.granted = idleGrant 0 :: List.replicate n (idleGrant 1) from rfl, hfilter]
    rfl
  have havail : v.supply.available = 10 * n := by
    rw [hv]
    exact congrArg (·.available) hsup
  have hgranted : v.arbiter.granted = List.replicate n (idleGrant 1) := by rw [hv]
  have hscan : allocScan v = (⟨[], List.replicate n (idleGrant 1), []⟩, none) := by
    rw [← hgranted]
    refine allocScan_settled (by rw [hv]) ?_
    rw [hgranted]
    simp [sumM, idleGrant]
  have hshares := withShares_replicate n hne
  have halloc := allocate_of_scan hscan
  have hnone : startDecision (afterScan v ⟨[], List.replicate n (idleGrant 1), []⟩) none = none := by simp [startDecision]
  rw [hnone, havail, hgranted, hshares] at halloc
  have hkept := outcomeTasks_kept (10 * n) (List.replicate n (idleGrant 1))
  rw [hshares] at hkept
  have hagenda : (allocate v).agenda =
      outcomeTasks (List.replicate n (idleGrant 1)) (List.replicate n reshared) [] ++ ts := by
    rw [halloc, hv]
    simp [State.push, withStart, syncReduction, afterScan]
  have hdrain : drain (k + 1) w = drain k (allocate v) := by
    rw [drain_cons k ha, show runTask (.leave 0) { w with agenda := ts } = takeLeave { w with agenda := ts } 0 from rfl, hleave]
  obtain ⟨harbiter, htable⟩ := drain_leading_reshares k hagenda (by have := outcomeTasks_replicate n hne; omega) hkept
  rw [hdrain, harbiter, htable, (allocate_flowOnly v).table, halloc]
  refine ⟨?_, by rw [hv]⟩
  show withShares v.supply.available (List.replicate n (idleGrant 1)) = _
  rw [havail, hshares]

theorem haltRequest_all {s : State} {f : RxFrame} (hb : f.byte 2 = 0) (hr : roleOf f.station = .bridge) (hv : s.imageValid = true) :
    haltRequest f s = allHatches.foldr haltHatch (s.push [.answer f .ok (allHatches.filter (haltStops s)).length]) := by
  simp [haltRequest, hb, haltAuthority, hr, hv, hatchOf]

/-- The frame of the crowd's HALT. -/
def haltAllFrame : RxFrame := ⟨0, eightBytes [5, 9, 0]⟩

theorem crowded_offers : Offers 5 (crowded 4096) haltAllFrame := by
  unfold Offers
  decide +kernel

theorem crowded_jog (n : Nat) : (crowded n).drive.jog = none := rfl

theorem crowded_stoppable (n : Nat) : AllStoppable (crowded n) := by
  have hopening : ∀ h : Hatch, h = 0 ∨ h = 1 → Stoppable (crowded n) h := fun h hh => .inl (by rcases hh with rfl | rfl <;> rfl)
  refine ⟨fun h hs => absurd (by fin_cases h <;> rfl) hs, fun e he => absurd he List.not_mem_nil, fun g hg => hopening _ ?_⟩
  rcases List.mem_cons.mp hg with rfl | hg
  · exact .inl rfl
  · rw [(List.mem_replicate.mp hg).2]
    exact .inr rfl

theorem crowded_slot (n : Nat) (id : CleatId) : (crowded n).slot id = none := Tbl.get_fill _ _

theorem crowded_mark (n : Nat) (h : Hatch) : ((crowded n).ctx h).mark = false := by fin_cases h <;> rfl

/-- The withdrawal of H1 is the first hand-off of the crowd's HALT. -/
theorem crowded_head : (haltRequest haltAllFrame (popped (crowded 4096))).agenda.head? = some (.leave 0) := by decide +kernel

end Sys2Proof.Machine

namespace Sys2Proof.Motions
open Sys2Proof Sys2Proof.Machine Sys2Proof.Safety

/-- Refutes O31: with 4096 entries of H2 in the Arbiter the hand-offs of a HALT of ALL come to their limit (assumption log 1) before
H2 has left it. -/
theorem not_haltStopsMotion : ¬ Obligations.HaltStopsMotion := by
  intro hall
  obtain ⟨t, hexec, -, -, ⟨-, hgranted⟩, -⟩ := hall.2 (crowded 4096) haltAllFrame crowded_offers (by decide +kernel)
    (by decide +kernel) (.inl (by decide +kernel)) (crowded_jog _) (crowded_stoppable _)
    (fun id r hid => by rw [crowded_slot] at hid; cases hid) fun h hm => by rw [crowded_mark] at hm; cases hm
  obtain ⟨w, hw⟩ : ∃ w, w = haltRequest haltAllFrame (popped (crowded 4096)) := ⟨_, rfl⟩
  have hexec' : exec .halt (crowded 4096) = .next (settle w) := by
    rw [hw]
    exact event_taken crowded_offers crowded_offers.ofKind
  have hkept : FlowKept (crowded 4096) w := by
    rw [hw, haltRequest_all (by decide +kernel) (by decide +kernel) (by decide +kernel)]
    exact FlowKept.trans (t := (popped (crowded 4096)).push _) ⟨rfl, rfl, rfl⟩ (.haltAll allHatches (crowded_jog 4096))
  obtain ⟨ts, hagenda⟩ := List.head?_eq_some_iff.mp (hw ▸ crowded_head)
  obtain ⟨hcrowd, -⟩ := drain_crowded (k := 4095) (n := 4096) (by decide) (by decide) hagenda hkept
  rw [show drain (4095 + 1) w = settle w from rfl, ← Host.Outcome.next.inj (hexec'.symm.trans hexec).symm, hgranted] at hcrowd
  exact absurd (congrArg List.length hcrowd) (by rw [List.length_replicate]; decide)

end Sys2Proof.Motions
end

section
/-!
SQUALL (R146 to R149): the marks, and what a mark does to a hatch that moves or may start.
-/

namespace Sys2Proof.Machine
open Sys2Proof Sys2Proof.Safety

section
variable {s : State} {h : Hatch}

/-- The part with one hatch marked. -/
def marked (s : State) (h : Hatch) : State := s.updCtx h fun c => { c with mark := true }

theorem marked_ctx (s : State) (h : Hatch) : (marked s h).ctx h = { s.ctx h with mark := true } := by simp [marked]

@[simp] theorem marked_outer (s : State) (h : Hatch) : (marked s h).outer = s.outer := rfl

theorem marked_others (s : State) (h : Hatch) : OtherHatchesKept s (marked s h) h := .updCtx s h _

theorem squallMarks_iff : squallMarks s h = true ↔
    (s.ctx h).mark = false ∧ ¬ ((s.ctx h).state = .closed ∧ (s.table.verdict.get h).isSecured = true) := by
  simp only [squallMarks, Bool.and_eq_true, Bool.not_eq_true', Bool.and_eq_false_iff, decide_eq_false_iff_not, not_and_or,
    Bool.not_eq_true]

theorem squallAuthority_iff {n : StationId} : squallAuthority n = true ↔ roleOf n = .bridge ∨ roleOf n = .cargo := by
  simp [squallAuthority]

/-- On a marked hatch the squall start is possible exactly where the conditions of R149 but the mark hold. -/
theorem squallPossible_iff (hm : (s.ctx h).mark = true) : squallPossible s h = true ↔ MayStart s h := by
  have hwork : closingWorkRemains s h = true ↔
      ¬ (bothClosed s h = true ∧ bothJacks s h .lowered = true ∧ allHydraulic s h .engaged = true) := by
    cases hc : bothClosed s h <;> cases hj : bothJacks s h .lowered <;> simp [closingWorkRemains, hc, hj]
  simp only [squallPossible, MayStart, hm, Bool.and_eq_true, Bool.or_eq_true, decide_eq_true_eq, Bool.not_eq_true', hwork, true_and, or_assoc,
    and_assoc]

theorem mayStart_marked : MayStart (marked s h) h ↔ MayStart s h := by
  have hstate : ((marked s h).ctx h).state = (s.ctx h).state := by rw [marked_ctx]
  simp only [MayStart, hstate]
  rfl

/-- An event that marks one hatch alone. -/
theorem exec_squall_one {f : RxFrame} (ho : Offers 11 s f) (hv : s.imageValid = true) (hr : roleOf f.station = .bridge ∨ roleOf f.station = .cargo)
    (hm : ∀ g, squallMarks s g = true ↔ g = h) :
    exec .squall s = .next (settle (markHatch h (reply (popped s) f .ok [1]))) := by
  have hfilter : allHatches.filter (squallMarks (popped s)) = [h] := by
    have : squallMarks (popped s) = fun g => decide (g = h) := funext fun g => by
      rw [Bool.eq_iff_iff, decide_eq_true_eq]
      exact hm g
    rw [this]
    fin_cases h <;> rfl
  rw [show exec .squall s = _ from event_taken ho ho.ofKind]
  simp only [squallRequest, show (popped s).imageValid = true from hv, squallAuthority_iff.mpr hr, hfilter]
  rfl

/-! ### Hatches that may start (R149) -/

theorem markHatch_tries (hst : (s.ctx h).state = .open ∨ (s.ctx h).state = .held ∨ (s.ctx h).state = .closed)
    (hp : squallPossible (marked s h) h = true) : markHatch h s = (marked s h).push [.squallTry h] := by
  have hctx : (s.updCtx h fun c => { c with mark := true }).ctx h = { s.ctx h with mark := true } := marked_ctx s h
  have hp' : squallPossible (s.updCtx h fun c => { c with mark := true }) h = true := hp
  rcases hst with hst | hst | hst <;> simp only [markHatch, hctx, hst, hp', if_true] <;> rfl

theorem squallTry_starts (hp : squallPossible s h = true) (hs : (s.ctx h).step = none) :
    squallTry s h = joinStep (begins s h .closing) h (closingStart s h) := by
  have hr : hasReclamp s h = false := by simp [hasReclamp, hs]
  simp only [squallTry, hp, hr, if_true, Bool.false_eq_true, if_false]
  rw [enterState_begins (by decide), joinInPlace_idle (by rw [begins_ctx]; exact hs)]

theorem squallTry_not (hp : squallPossible s h = false) : squallTry s h = s := by
  simp [squallTry, hp]

theorem settle_markHatch_stays (hst : (s.ctx h).state = .open ∨ (s.ctx h).state = .held ∨ (s.ctx h).state = .closed)
    (hp : squallPossible (marked s h) h = false) (hs : (s.ctx h).step = none) (ha : s.agenda = []) :
    settle (markHatch h s) = marked s h := by
  have hctx : (s.updCtx h fun c => { c with mark := true }).ctx h = { s.ctx h with mark := true } := marked_ctx s h
  have hp' : squallPossible (s.updCtx h fun c => { c with mark := true }) h = false := hp
  have htry : settle ((marked s h).push [.squallTry h]) = marked s h := by
    rw [settle_push_one] <;> rw [show runTask (.squallTry h) (marked s h) = _ from squallTry_not hp]
    exact ha
  rcases hst with hst | hst | hst
  · simp only [markHatch, hctx, hst]
    exact htry
  · simp only [markHatch, hctx, hst]
    exact htry
  · have hmark : markHatch h s = marked s h := by
      simp only [markHatch, hctx, hst, hp', Bool.false_eq_true, if_false, reclass, hs]
      rfl
    rw [hmark, settle_nil (show (marked s h).agenda = [] from ha)]

/-! ### Hatches that do not move (R148) -/

/-- The context of a hatch that waits with its mark (R148). -/
def waitingCtx (c : HatchCtx) : HatchCtx := { c with mark := true, next := if c.state = .stopping then some .closing else c.next }

/-- The part with some hatches marked that wait. -/
def markedAll (hs : List Hatch) (s : State) : State :=
  { s with hatches := hs.foldr (fun h t => t.set h (waitingCtx (s.ctx h))) s.hatches }

theorem markedAll_ctx (hs : List Hatch) (s : State) (g : Hatch) :
    (markedAll hs s).ctx g = if g ∈ hs then waitingCtx (s.ctx g) else s.ctx g := by
  simp only [markedAll, State.ctx]
  induction hs with
  | nil => simp
  | cons h hs ih =>
    by_cases hg : h = g
    · subst hg
      simp
    · simp [hg, Ne.symm hg, ih]

theorem markHatch_waits (hst : (s.ctx h).state = .unknown ∨ (s.ctx h).state = .fault ∨ (s.ctx h).state = .stopping) :
    markHatch h s = s.setCtx h (waitingCtx (s.ctx h)) := by
  have hctx : (s.updCtx h fun c => { c with mark := true }).ctx h = { s.ctx h with mark := true } := marked_ctx s h
  simp only [markHatch, hctx]
  rcases hst with hst | hst | hst
  · simp [hst, waitingCtx, State.updCtx]
  · simp [hst, waitingCtx, State.updCtx]
  · simp only [hst, State.updCtx_updCtx, waitingCtx, if_true]
    rw [State.updCtx]
    simp [hst]

theorem foldr_markHatch {hs : List Hatch} (hn : hs.Nodup)
    (hst : ∀ h ∈ hs, (s.ctx h).state = .unknown ∨ (s.ctx h).state = .fault ∨ (s.ctx h).state = .stopping) :
    hs.foldr markHatch s = markedAll hs s := by
  induction hs with
  | nil => rfl
  | cons h hs ih =>
    obtain ⟨hh, hn⟩ := List.nodup_cons.mp hn
    have hctx : (markedAll hs s).ctx h = s.ctx h := by rw [markedAll_ctx, if_neg hh]
    rw [List.foldr_cons, ih hn fun g hg => hst g (List.mem_cons_of_mem h hg),
      markHatch_waits (by rw [hctx]; exact hst h List.mem_cons_self), hctx]
    rfl

/-! ### The class of a marked step (R146, R99) -/

/-- The hatch marked, its step of class URGENT. -/
def urged (s : State) (h : Hatch) (t : StepCtx) : State :=
  (marked s h).updCtx h fun c => { c with step := some { t with cls := .urgent } }

theorem urged_ctx (s : State) (h : Hatch) (t : StepCtx) :
    (urged s h t).ctx h = { s.ctx h with mark := true, step := some { t with cls := .urgent } } := by
  simp [urged, marked]

@[simp] theorem urged_outer (s : State) (h : Hatch) (t : StepCtx) : (urged s h t).outer = s.outer := rfl

theorem urged_others (s : State) (h : Hatch) (t : StepCtx) : OtherHatchesKept s (urged s h t) h :=
  (marked_others s h).trans (.updCtx _ h _)

theorem markHatch_closing {t : StepCtx} (hst : (s.ctx h).state = .closing) (hs : (s.ctx h).step = some t) :
    markHatch h s = if t.cls = .urgent then marked s h else (urged s h t).push [.reclass h] := by
  have hctx : (s.updCtx h fun c => { c with mark := true }).ctx h = { s.ctx h with mark := true } := marked_ctx s h
  simp only [markHatch, hctx, hst, reclass, hs, classFor, if_true]
  rfl

/-- An allocation that finds the one grant as it was hands nothing on. -/
theorem allocate_stands {g : Granted} (hp : s.arbiter.pending = []) (hg : s.arbiter.granted = [g]) (hf : sumM [g] ≤ s.supply.available)
    (hsh : withShares s.supply.available [g] = [g]) : ∃ a : Arbiter, allocate s = withArbiter s a ∧ a.pending = [] ∧ a.granted = [g] := by
  have hscan := allocScan_settled (s := s) hp (by rw [hg]; exact hf)
  have hnone : startDecision (afterScan s ⟨[], s.arbiter.granted, []⟩) none = none := by simp [startDecision]
  have htasks : outcomeTasks [g] [g] [] = [] := by
    cases hd : g.entry.demand <;> simp [outcomeTasks, handOff, hd]
  rw [allocate_of_scan hscan, hnone]
  simp only [hg, hsh, htasks]
  exact ⟨_, rfl, rfl, hsh⟩

/-- An entry alone that does not fit goes on waiting, after the allocation that a start may bring. -/
theorem takes_allocate_blocked {e : Entry} (hp : s.arbiter.pending = [e]) (hg : s.arbiter.granted = []) (hf : s.supply.available < e.m) :
    ∃ (a : Arbiter) (k : Nat), k ≤ 1 ∧ Takes k (allocate s) (withArbiter (withStart s (startDecision s (some e))) a) ∧
      a.pending = [e] ∧ a.granted = [] := by
  obtain ⟨b, hb, hbp, hbg⟩ := allocate_blocked hp hg hf
  rw [hb]
  cases hd : startDecision s (some e) with
  | none => exact ⟨b, 0, by omega, .refl _, hbp, hbg⟩
  | some k =>
    obtain ⟨x, hx, hxp, hxg⟩ := allocate_blocked (s := withArbiter (startPump s k) b) hbp hbg hf
    have hstarting : anyPump (withArbiter (startPump s k) b) .starting = true :=
      anyPump_iff.mpr ⟨k, congrArg (·.state) (State.pump_setPump s k _)⟩
    have hnone : startDecision (withArbiter (startPump s k) b) (some e) = none := by simp [startDecision, hstarting]
    rw [hnone] at hx
    refine ⟨x, 1, le_rfl, ?_, hxp, hxg⟩
    have := Takes.push (withArbiter (startPump s k) b) .allocate []
    rw [show runTask .allocate ((withArbiter (startPump s k) b).push []) = allocate (withArbiter (startPump s k) b) from rfl, hx] at this
    exact this

/-- The share of the one grant does not depend on its class. -/
theorem withShares_cls {avail : Nat} {g : Granted} {c : Cls} (h : withShares avail [g] = [g]) :
    withShares avail [{ g with entry := { g.entry with cls := c } }] = [{ g with entry := { g.entry with cls := c } }] := by
  have hgrant : (withShares avail [g]).map (·.grant) = [g.grant] := by rw [h]; rfl
  have hnew : (withShares avail [{ g with entry := { g.entry with cls := c } }]).map (·.grant) = [g.grant] := hgrant
  simp only [withShares, List.map_cons, List.map_nil, List.cons.injEq, and_true] at hnew ⊢
  rw [hnew]

/-- The Arbiter takes the new class of a step whose entry it holds with another. -/
theorem takeReclass_urged {t : StepCtx} (hh : s.arbiter.has h = true) (hc : s.arbiter.classOf h ≠ some .urgent) :
    takeReclass (urged s h t) h = allocate (withArbiter (urged s h t) (s.arbiter.changeClass h .urgent)) := by
  have hctx := urged_ctx s h t
  simp only [takeReclass, hctx]
  rw [if_neg]
  · rfl
  · rw [show (urged s h t).arbiter = s.arbiter from rfl, hh]
    simpa using hc

end

end Sys2Proof.Machine

namespace Sys2Proof.Squalls
open Sys2Proof Sys2Proof.Machine Sys2Proof.Safety

/-- Settles O35: the marks, and the hand-offs of the one hatch that a mark moves. -/
theorem squallMarksHatches : Obligations.SquallMarksHatches := by
  intro s f ho hv
  refine ⟨fun hno => ?refused, fun hmay => ⟨?quiet, ?one⟩⟩
  case refused =>
    have hno : squallAuthority f.station = false := Bool.eq_false_iff.mpr fun h => hno (squallAuthority_iff.mp h)
    rw [show exec .squall s = _ from event_taken ho ho.ofKind]
    simp only [squallRequest, show (popped s).imageValid = true from hv, hno]
    exact congrArg Host.Outcome.next (settle_reply _ f _ _ ho.agenda)
  case quiet =>
    intro hquiet marks
    obtain ⟨hs, hhs⟩ : ∃ hs, hs = allHatches.filter marks := ⟨_, rfl⟩
    have hmem : ∀ h, h ∈ hs ↔ marks h = true := fun h => by rw [hhs, List.mem_filter, and_iff_right (mem_allHatches h)]
    have hmarks : squallMarks (popped s) = marks := rfl
    have hfold : hs.foldr markHatch (reply (popped s) f .ok [byteOf hs.length]) = markedAll hs (reply (popped s) f .ok [byteOf hs.length]) := by
      refine foldr_markHatch (by rw [hhs]; exact nodup_allHatches.filter _) fun h hh => ?_
      obtain ⟨hm, hnc⟩ := squallMarks_iff.mp (show squallMarks s h = true from (hmem h).mp hh)
      rcases hquiet h with h1 | h1 | h1 | h1 | h1
      · rw [h1] at hm
        cases hm
      · exact .inl h1
      · exact .inr (.inl h1)
      · exact .inr (.inr h1)
      · exact absurd h1 hnc
    have hrequest : squallRequest f (popped s) = markedAll hs (reply (popped s) f .ok [byteOf hs.length]) := by
      rw [← hfold]
      simp only [squallRequest, show (popped s).imageValid = true from hv, squallAuthority_iff.mpr hmay, hmarks, ← hhs]
      rfl
    have hexec : exec .squall s = .next (markedAll hs (reply (popped s) f .ok [byteOf hs.length])) := by
      rw [show exec .squall s = _ from event_taken ho ho.ofKind, hrequest, settle_nil]
      exact ho.agenda
    refine ⟨_, hexec, fun h => ?_, by rw [hhs]; rfl⟩
    rw [markedAll_ctx]
    simp only [hmem, reply_ctx, popped_ctx]
    rfl
  intro h hm hj honly hothers marked' becomes
  obtain ⟨u, hu⟩ : ∃ u, u = reply (popped s) f .ok [1] := ⟨_, rfl⟩
  have hone : ¬ ((s.ctx h).state = .closed ∧ (s.table.verdict.get h).isSecured = true) → exec .squall s = .next (settle (markHatch h u)) :=
    fun hnc => by
      rw [hu]
      refine exec_squall_one ho hv hmay fun g => ⟨fun hg => ?_, fun hg => ?_⟩
      · obtain ⟨hgm, hgc⟩ := squallMarks_iff.mp hg
        by_contra hne
        rcases hothers g hne with h1 | h1
        · rw [h1] at hgm
          cases hgm
        · exact hgc h1
      · rw [hg]
        exact squallMarks_iff.mpr ⟨hm, hnc⟩
  have hua : u.agenda = [] := by rw [hu]; exact ho.agenda
  have hresult : ∀ t c pending granted, settle (markHatch h u) = t → t.ctx h = c → OtherHatchesKept u t h → t.outer = u.outer →
      t.arbiter.pending = pending → t.arbiter.granted = granted → t.link = u.link →
      ¬ ((s.ctx h).state = .closed ∧ (s.table.verdict.get h).isSecured = true) → becomes c pending granted :=
    fun t c pending granted ht hc hk houter hp hg hl hnc => by
      refine ⟨t, by rw [hone hnc, ht], hc, .trans (by rw [hu]; exact .of_fields rfl rfl rfl) hk, sameElsewhere_of_outer ?_, hp, hg, ?_⟩
      · rw [houter, hu]
        rfl
      · rw [hl, hu]
        rfl
  refine ⟨fun hst ⟨c, hmove⟩ => ?opening, fun st hst hs => ⟨fun g hp hg hcls hflow hsh => ?granted, fun e hp hg hcls hflow => ?pending⟩, ?start⟩
  case opening =>
    have hctx : ((marked u h).ctx h).state = .opening := by rw [marked_ctx, hu]; exact hst
    have hmark : markHatch h u = stopStep (marked u h) h .closing := by
      simp only [markHatch, show (u.updCtx h fun c => { c with mark := true }).ctx h = (marked u h).ctx h from rfl, hctx]
      rfl
    obtain ⟨a, hset, hp, hg⟩ := settle_stopStep (s := marked u h) (n := .closing) (by rw [hu]; exact honly) hua
      (channelsAtRest_false (c := c) (by rw [hu]; exact hmove))
    refine hresult _ _ [] [] ((congrArg settle hmark).trans hset) ?_ ?_ ?_ hp hg rfl (by simp [hst])
    · simp [marked_ctx, hu, marked']
    · exact ((((marked_others u h).trans (.dropStep _ h)).trans (.updCtx _ h _)).trans (.judged _ h)).trans (.withArbiter _ a h)
    · exact (dropStep_outer (marked u h) h).trans (marked_outer u h)
  case granted =>
    have hgh : g.entry.hatch = h := honly.2 g (by rw [hg]; exact List.mem_singleton_self g)
    have husctx : (u.ctx h).step = some st := by rw [hu]; exact hs
    have hmark := markHatch_closing (s := u) (h := h) (by rw [hu]; exact hst) husctx
    by_cases hc : st.cls = .urgent
    · rw [if_pos hc] at hmark
      refine hresult (marked u h) _ _ _ (by rw [hmark]; exact settle_nil hua) ?_ (marked_others u h) (by simp) (by rw [hu]; exact hp)
        ?_ rfl (by simp [hst])
      · rw [marked_ctx, hu, ← hc]
        simp [marked', hs]
      · rw [← hc, ← hcls, hu]
        exact hg
    · rw [if_neg hc] at hmark
      have hchange : u.arbiter.changeClass h .urgent = { s.arbiter with granted := [{ g with entry := { g.entry with cls := .urgent } }] } := by
        rw [hu]
        simp [Arbiter.changeClass, hp, hg, hgh]
      have hre := takeReclass_urged (s := u) (h := h) (t := st) (by rw [hu]; simp [Arbiter.has, hg, hgh])
        (by rw [hu]; simpa [Arbiter.classOf, hp, hg, hgh, hcls] using hc)
      obtain ⟨a, ha, hap, hag⟩ := allocate_stands (s := withArbiter (urged u h st) (u.arbiter.changeClass h .urgent))
        (g := { g with entry := { g.entry with cls := .urgent } }) (by rw [hchange]; exact hp) (by rw [hchange]; rfl)
        (by rw [hu]; exact (by simpa [hg] using hflow.1 : g.entry.m + 0 ≤ s.supply.available))
        (by rw [hu]; exact withShares_cls hsh)
      have hsettle : settle (markHatch h u) = withArbiter (urged u h st) a := by
        rw [hmark, settle_push_one] <;> rw [show runTask (.reclass h) (urged u h st) = _ from hre, ha]
        · rfl
        · exact hua
      refine hresult _ _ _ _ hsettle ?_ ((urged_others u h st).trans (.withArbiter _ a h)) (by simp) hap hag rfl (by simp [hst])
      rw [withArbiter_ctx, urged_ctx, hu]
      rfl
  case pending =>
    have heh : e.hatch = h := honly.1 e (by rw [hp]; exact List.mem_singleton_self e)
    have husctx : (u.ctx h).step = some st := by rw [hu]; exact hs
    have hmark := markHatch_closing (s := u) (h := h) (by rw [hu]; exact hst) husctx
    by_cases hc : st.cls = .urgent
    · rw [if_pos hc] at hmark
      refine hresult (marked u h) _ _ _ (by rw [hmark]; exact settle_nil hua) ?_ (marked_others u h) (by simp) ?_ (by rw [hu]; exact hg)
        rfl (by simp [hst])
      · rw [marked_ctx, hu, ← hc]
        simp [marked', hs]
      · rw [← hc, ← hcls, hu]
        exact hp
    · rw [if_neg hc] at hmark
      have hchange : u.arbiter.changeClass h .urgent = { s.arbiter with pending := [{ e with cls := .urgent }] } := by
        rw [hu]
        simp [Arbiter.changeClass, hp, hg, heh, insertEntry]
      have hre := takeReclass_urged (s := u) (h := h) (t := st) (by rw [hu]; simp [Arbiter.has, hp, heh])
        (by rw [hu]; simpa [Arbiter.classOf, hp, hg, heh, hcls] using hc)
      obtain ⟨a, k, hk, htakes, hap, hag⟩ := takes_allocate_blocked (s := withArbiter (urged u h st) (u.arbiter.changeClass h .urgent))
        (e := { e with cls := .urgent }) (by rw [hchange]; rfl) (by rw [hchange]; exact hg) (by rw [hu]; exact hflow)
      have hfirst := Takes.push (urged u h st) (.reclass h) []
      rw [State.push_nil, show runTask (.reclass h) (urged u h st) = _ from hre, ← hmark] at hfirst
      refine hresult _ _ _ _ ((hfirst.trans htakes).settled (by omega) (by rw [withArbiter_agenda, withStart_agenda]; exact hua)) ?_ ?_ (by simp) hap hag (by simp; rfl)
        (by simp [hst])
      · rw [withArbiter_ctx, State.ctx, withStart_hatches, withArbiter_hatches]
        exact (urged_ctx u h st).trans (by rw [hu]; rfl)
      · exact (urged_others u h st).trans (.of_fields (by simp) (by simp) (by simp))
  intro hn hs hst start gated
  refine ⟨fun hmayStart hflow hc => ?starts, fun hno => ?stays⟩
  case starts =>
    obtain ⟨v, hvdef⟩ : ∃ v, v = begins (marked u h) h .closing := ⟨_, rfl⟩
    have hpossible : squallPossible (marked u h) h = true :=
      (squallPossible_iff (by rw [marked_ctx])).mpr (mayStart_marked.mpr (by rw [hu]; exact hmayStart))
    have hmark : Takes 1 (markHatch h u) (joinStep v h start) := by
      rw [markHatch_tries (by rw [hu]; exact hst.imp id (.imp id And.left)) hpossible]
      have := Takes.push (marked u h) (.squallTry h) []
      rw [State.push_nil, show runTask (.squallTry h) (marked u h) = _ from
        squallTry_starts hpossible (by rw [marked_ctx, hu]; exact hs), ← hvdef] at this
      rwa [show closingStart (marked u h) h = start by rw [hu]; rfl] at this
    have hctxv : v.ctx h = { marked' with state := .closing, held := none, next := none } := by
      rw [hvdef, begins_ctx, marked_ctx, hu]
      rfl
    obtain ⟨k, w, hk, htakes, hw⟩ := takes_joinStep_waits (s := v) (h := h) (name := start) (by rw [hvdef, hu]; exact hn)
      (by rw [hvdef, hu]; exact hc) (by rw [hvdef, hu]; exact hflow)
    have hclass : classFor (v.ctx h) start = .urgent := by
      rw [hctxv]
      rfl
    have hgate : heelGates v = heelGates s := by rw [hvdef, hu]; rfl
    refine hresult w _ _ _ ((hmark.trans htakes).settled (by omega) (hw.agenda.trans (by rw [hvdef]; exact hua))) ?_ ?_ ?_ ?_ hw.granted ?_ ?_
    · rw [hw.ctx, withStep_ctx, hclass, hgate, hctxv]
    · refine .trans ?_ hw.others
      rw [hvdef]
      exact (marked_others u h).trans (begins_others _ h _)
    · rw [hw.outer, hvdef]
      rfl
    · rw [hw.pending, hclass, hgate, hvdef, hu]
      rfl
    · rw [hw.link, hvdef]
      rfl
    · rcases hst with h1 | h1 | ⟨h1, h2⟩ <;> simp [*]
  case stays =>
    have hnot : squallPossible (marked u h) h = false := by
      refine Bool.eq_false_iff.mpr fun hp => hno ?_
      have := mayStart_marked.mp ((squallPossible_iff (by rw [marked_ctx])).mp hp)
      rwa [hu] at this
    have hset : settle (markHatch h u) = marked u h :=
      settle_markHatch_stays (by rw [hu]; exact hst.imp id (.imp id And.left)) hnot (by rw [hu]; exact hs) hua
    rw [hone (by rcases hst with h1 | h1 | ⟨h1, h2⟩ <;> simp [*]), hset, hu]
    rfl

end Sys2Proof.Squalls
end

section
/-!
The drive update of one channel short of a coil fault (R112 to R114), and what a channel that comes to rest brings about (R57, R58,
R60, R123).
-/

namespace Sys2Proof.Machine
open Sys2Proof Sys2Proof.Safety

/-! ### The movement of one channel -/

section
variable {s : State} {h : Hatch} {c : Channel}

theorem rollPanel_isSome (c : Channel) : (rollPanel? c).isSome = (c == .rollPort || c == .rollStbd) := by cases c <;> rfl

theorem stepped_timer (r : ChannelRec) (p : Image) (held proportional : Bool) :
    (r.stepped p held proportional).mismatchTimer = r.mismatchTimer := by
  simp only [ChannelRec.stepped, ChannelRec.moved]
  repeat' split
  all_goals rfl

/-- A mismatch that has not stood for 180 ms declares no coil fault (R116). -/
theorem declares_short (hm : (s.channel h c).mismatchTimer < 180) : declares (s.channel h c) (updatedChannel s h c) = false := by
  have htimer : (updatedChannel s h c).mismatchTimer ≠ 200 := by
    have := stepped_timer (s.channel h c) s.params (channelHeld s h c) (rollPanel? c).isSome
    simp only [updatedChannel, ChannelRec.checked, this]
    repeat' split
    all_goals omega
  simp [declares, htimer]

theorem coilFound_short (hm : (s.channel h c).mismatchTimer < 180) :
    coilFound (s.setChannel h c (updatedChannel s h c)) h c (s.channel h c) =
      (s.setChannel h c (updatedChannel s h c), if handsAgain (s.channel h c) then [.openCoil h c] else []) := by
  simp only [coilFound, State.channel_setChannel, declares_short hm, Bool.false_eq_true, if_false]

/-- A channel that a check finds at rest stays so (R117, R118). -/
theorem coilFound_atRest {before : ChannelRec} (ha : (s.channel h c).applied = 0) (hw : (s.channel h c).working = none)
    (hd : (s.channel h c).duty = 0) : ((coilFound s h c before).1.channel h c).applied = 0 ∧
      ((coilFound s h c before).1.channel h c).working = none ∧ ((coilFound s h c before).1.channel h c).duty = 0 := by
  simp only [coilFound]
  split
  · split
    · simp only [declareStuckOn]
      split
      · rw [State.channel_setChannel]
        exact ⟨ha, hw, hd⟩
      · change ((State.updChannels _ h _).channel h c).applied = 0 ∧ ((State.updChannels _ h _).channel h c).working = none ∧
          ((State.updChannels _ h _).channel h c).duty = 0
        rw [State.channel_updChannels]
        exact ⟨rfl, rfl, rfl⟩
    · rw [declareOpenCoil, State.channel_setChannel]
      exact ⟨rfl, rfl, rfl⟩
  · exact ⟨ha, hw, hd⟩

theorem updateChannel_outer (s : State) (h : Hatch) (c : Channel) : (updateChannel h c s).outer =
    (coilFound (s.setChannel h c (updatedChannel s h c)) h c (s.channel h c)).1.outer := by
  simp only [updateChannel, push_outer]
  split
  · simp only [restingUpdate]
    repeat' split
    all_goals simp
  · simp [reportApplied]

/-- After an update short of a coil fault every channel stands as the movement of the one leaves it. -/
theorem settle_updateChannel_plant (hm : (s.channel h c).mismatchTimer < 180) (g : Hatch) (d : Channel) :
    ((settle (updateChannel h c s)).channel g d).plant = ((s.setChannel h c (updatedChannel s h c)).channel g d).plant := by
  refine plant_of_outer ?_ g d
  rw [settle_outer, updateChannel_outer, coilFound_short hm]

/-- A held channel stands at 0 after its update (R115). -/
theorem settle_updateChannel_held (hheld : channelHeld s h c = true) : ((settle (updateChannel h c s)).channel h c).applied = 0 ∧
    ((settle (updateChannel h c s)).channel h c).working = none ∧ ((settle (updateChannel h c s)).channel h c).duty = 0 := by
  have hrest : (updatedChannel s h c).applied = 0 ∧ (updatedChannel s h c).working = none ∧ (updatedChannel s h c).duty = 0 := by
    simp [updatedChannel, ChannelRec.stepped, hheld, ChannelRec.checked, dutyOf]
  obtain ⟨h1, h2, h3⟩ := hrest
  obtain ⟨ha, hw, hd⟩ := coilFound_atRest (s := s.setChannel h c (updatedChannel s h c)) (h := h) (c := c) (before := s.channel h c)
    (by rw [State.channel_setChannel]; exact h1) (by rw [State.channel_setChannel]; exact h2) (by rw [State.channel_setChannel]; exact h3)
  have hplant := plant_of_outer ((settle_outer _).trans (updateChannel_outer s h c)) h c
  exact ⟨(congrArg ChannelRec.applied hplant).trans ha, (congrArg ChannelRec.working hplant).trans hw,
    (congrArg ChannelRec.duty hplant).trans hd⟩

theorem updatedChannel_duty (s : State) (h : Hatch) (c : Channel) : (updatedChannel s h c).duty =
    dutyOf s.params.offset (rollPanel? c).isSome (updatedChannel s h c).applied := rfl

/-- A channel that is not held moves by the tables of R112 and R113. -/
theorem updatedChannel_moved (hheld : channelHeld s h c = false) : ∃ r, r = (s.channel h c).moved s.params (rollPanel? c).isSome ∧
    (updatedChannel s h c).applied = r.applied ∧ (updatedChannel s h c).working = r.working ∧ (updatedChannel s h c).deadtime = r.deadtime := by
  refine ⟨_, rfl, ?_⟩
  simp [updatedChannel, ChannelRec.stepped, hheld, ChannelRec.checked]

theorem moved_rests {r : ChannelRec} {p : Image} {b : Bool} (hc : r.target.command = 0) :
    r.moved p b = { r with applied := if b then r.applied - p.rampDown else 0 } := by simp [ChannelRec.moved, hc]

theorem moved_from_none {r : ChannelRec} {p : Image} {b : Bool} (hc : 0 < r.target.command) (hw : r.working = none) :
    r.moved p b = if r.deadtime = 0 then { r with
        working := some r.target.dir
        applied := if b then min p.rampUp r.target.command else 1000 }
      else { r with applied := 0 } := by
  simp [ChannelRec.moved, Nat.ne_of_gt hc, hw]

theorem moved_along {r : ChannelRec} {p : Image} {b : Bool} (hc : 0 < r.target.command) (hw : r.working = some r.target.dir) :
    r.moved p b = { r with applied :=
      if b then (if r.applied < r.target.command then min (r.applied + p.rampUp) r.target.command
        else max (r.applied - p.rampDown) r.target.command) else 1000 } := by
  cases b <;> simp [ChannelRec.moved, Nat.ne_of_gt hc, hw]

theorem moved_against {r : ChannelRec} {p : Image} {b : Bool} (hc : 0 < r.target.command) (hw : r.working = some r.target.dir.other) :
    r.moved p b = if (if b then r.applied - p.rampDown else 0) = 0 then { r with applied := 0, working := none, deadtime := p.deadtime }
      else { r with applied := if b then r.applied - p.rampDown else 0 } := by
  have hne : ¬ r.target.dir.other = r.target.dir := by cases r.target.dir <;> decide
  simp [ChannelRec.moved, Nat.ne_of_gt hc, hw, hne]

/-! ### A channel that comes to rest -/

/-- Command 0 takes the channel to applied 0 at this update (R112, R113). -/
def ComesToRest (s : State) (h : Hatch) (c : Channel) : Prop :=
  channelHeld s h c = false ∧ (s.channel h c).mismatchTimer < 180 ∧ (s.channel h c).target.command = 0 ∧ 0 < (s.channel h c).applied ∧
    (if (rollPanel? c).isSome then (s.channel h c).applied - s.params.rampDown else 0) = 0

theorem updatedChannel_rest (hr : ComesToRest s h c) : (updatedChannel s h c).applied = 0 ∧
    (updatedChannel s h c).jogMaster = (s.channel h c).jogMaster ∧ (updatedChannel s h c).sequencerTarget = (s.channel h c).sequencerTarget ∧
    (updatedChannel s h c).target = (s.channel h c).target := by
  obtain ⟨hheld, -, hcmd, -, hdown⟩ := hr
  simp only [updatedChannel, ChannelRec.stepped, hheld, ChannelRec.moved, hcmd, if_true, Bool.false_eq_true, if_false, ChannelRec.checked]
  exact ⟨hdown, trivial, trivial, trivial⟩

/-- The part with the channel at rest, the stall timers in step with it. -/
def rested (s : State) (h : Hatch) (c : Channel) : State := syncStall (s.setChannel h c (updatedChannel s h c)) h

/-- A channel that comes to rest is reported to the Sequencer, and to a jog that ends (R60, R68, R123). -/
theorem updateChannel_rest (hr : ComesToRest s h c) :
    updateChannel h c s = jogReleaseIfRest ((rested s h c).push [.stoppingEnd h, .doneTest h]) := by
  obtain ⟨happ, -⟩ := updatedChannel_rest hr
  obtain ⟨-, hm, hcmd, hpos, -⟩ := hr
  have hagain : handsAgain (s.channel h c) = false := by simp [handsAgain, hcmd]
  simp only [updateChannel, coilFound_short hm, State.channel_setChannel, hagain, Bool.false_eq_true, if_false, State.push_nil]
  rw [if_neg (by simp [happ]; omega)]
  rfl

theorem rested_channel (s : State) (h : Hatch) (c : Channel) : (rested s h c).channel h c = updatedChannel s h c :=
  State.channel_setChannel s h c _

theorem rested_channel_ne {g : Hatch} {d : Channel} (hne : (g, d) ≠ (h, c)) : (rested s h c).channel g d = s.channel g d :=
  State.channel_setChannel_ne s _ hne

theorem State.updCtx_self {f : HatchCtx → HatchCtx} (hf : f (s.ctx h) = s.ctx h) : s.updCtx h f = s := by
  rw [State.updCtx, hf, State.setCtx, State.ctx, Tbl.set_get_self]

/-- Without a step there is no stall timer. -/
theorem syncStall_stepless (hs : (s.ctx h).step = none) : syncStall s h = s := by
  refine State.updCtx_self ?_
  cases hx : s.ctx h
  rw [hx] at hs
  cases hs
  rfl

/-- A stall timer at most returns to 0. -/
theorem syncStall_step {t : StepCtx} (hs : (s.ctx h).step = some t) :
    ∃ x, (syncStall s h).ctx h = { s.ctx h with step := some { t with stallTimer := x } } := by
  rw [syncStall, State.ctx_updCtx]
  simp only [hs, Option.map_some]
  exact ⟨_, rfl⟩

theorem rested_stepless (hs : (s.ctx h).step = none) : rested s h c = s.setChannel h c (updatedChannel s h c) :=
  syncStall_stepless hs

theorem doneTest_stepless (hs : (s.ctx h).step = none) : doneTest s h = s := by simp [doneTest, hs]

theorem doneTest_waits {t : StepCtx} (hs : (s.ctx h).step = some t) (hp : t.phase ≠ .active) : doneTest s h = s := by
  simp [doneTest, hs, hp]

theorem stoppingEnd_not (hst : (s.ctx h).state ≠ .stopping) : stoppingEnd s h = s := by simp [stoppingEnd, hst]

/-- A STOPPING whose channels are at rest ends HELD, where it recorded that (R60). -/
theorem stoppingEnd_held (hst : (s.ctx h).state = .stopping) (hr : channelsAtRest s h = true) {k : HeldCause}
    (hn : (s.ctx h).next = some (.held k)) : stoppingEnd s h = heldFor s h k := by
  simp only [stoppingEnd, hst, hr, decide_true, Bool.and_self, if_true, hn]
  exact enterHeld_eq k

/-- A STOPPING whose channels are at rest goes on CLOSING, where it recorded that (R60). -/
theorem stoppingEnd_closing (hst : (s.ctx h).state = .stopping) (hr : channelsAtRest s h = true)
    (hn : (s.ctx h).next = some .closing) : stoppingEnd s h = joinOrHold (begins s h .closing) h (closingStart s h) := by
  simp only [stoppingEnd, hst, hr, decide_true, Bool.and_self, if_true, hn]
  rw [enterState_begins (by decide)]
  rfl

theorem joinOrHold_blocked {name : StepName} (hb : isBlocked s h (.step name) = true) : joinOrHold s h name = heldFor s h .hold := by
  rw [joinOrHold, if_pos hb, enterHeld_eq]

theorem joinOrHold_joins {name : StepName} (hb : isBlocked s h (.step name) = false) (ht : s.tripped h = false) :
    joinOrHold s h name = joinStep s h name := by
  simp [joinOrHold, hb, ht]

/-- The last hand-off of an event. -/
theorem Takes.last {w : State} {t : Task} (ha : w.agenda = [t]) : Takes 1 w (runTask t w.idle) := fun n => by
  rw [drain_cons n ha]
  rfl

/-- A withdrawal numbers no arrival (R97). -/
theorem takeLeave_counter (s : State) (h : Hatch) : (takeLeave s h).arbiter.counter = s.arbiter.counter := by
  simp only [takeLeave]
  split
  · rw [allocate_of_scan (Prod.mk.eta (p := allocScan _)).symm]
    generalize startDecision _ _ = d
    cases d <;> rfl
  · rfl

/-- The withdrawal of the only entry, first of what waits: the arrivals are numbered on from where they stood. -/
theorem takes_leave_counted (ts : List Task) (ho : OnlyEntryOf s h) : ∃ a : Arbiter,
    Takes 1 (s.push (.leave h :: ts)) (withArbiter (s.push ts) a) ∧ a.pending = [] ∧ a.granted = [] ∧ a.counter = s.arbiter.counter := by
  obtain ⟨a, ha, hp, hg⟩ := takeLeave_empties (s := s.push ts) (h := h) ho
  have htakes := Takes.push s (.leave h) ts
  rw [show runTask (.leave h) (s.push ts) = takeLeave (s.push ts) h from rfl, ha] at htakes
  exact ⟨a, htakes, hp, hg, by simpa [ha] using takeLeave_counter (s.push ts) h⟩

/-! ### The end of a STOPPING (R60) -/

/-- The last channel of a STOPPING hatch comes to rest, and its STOPPING ends. -/
theorem takes_rest_stopping (hr : ComesToRest s h c) (hj : s.drive.jog = none) (hrest : ∀ d, d ≠ c → (s.channel h d).applied = 0) :
    channelsAtRest (rested s h c) h = true ∧
    Takes 1 (updateChannel h c s) (stoppingEnd ((rested s h c).push [.doneTest h]) h) := by
  refine ⟨channelsAtRest_iff.mpr fun d => ?_, ?_⟩
  · by_cases hd : d = c
    · rw [hd, rested_channel]
      exact (updatedChannel_rest hr).1
    · rw [rested_channel_ne fun h => hd (congrArg Prod.snd h)]
      exact hrest d hd
  · rw [updateChannel_rest hr, jogReleaseIfRest_noJog (by exact hj)]
    exact Takes.push _ (.stoppingEnd h) [.doneTest h]

theorem rested_ctx (hs : (s.ctx h).step = none) : (rested s h c).ctx h = s.ctx h := by rw [rested_stepless hs]; rfl

section
variable (hr : ComesToRest s h c) (hj : s.drive.jog = none) (hst : (s.ctx h).state = .stopping) (hs : (s.ctx h).step = none)
  (hrest : ∀ d, d ≠ c → (s.channel h d).applied = 0)
include hr hj hst hs hrest

theorem settle_rest_held (ha : s.agenda = []) {k : HeldCause} (hn : (s.ctx h).next = some (.held k)) :
    (settle (updateChannel h c s)).ctx h = { s.ctx h with state := .held, held := some k, next := none } := by
  obtain ⟨hat, htakes⟩ := takes_rest_stopping hr hj hrest
  have hctx := rested_ctx (c := c) hs
  rw [stoppingEnd_held (s := (rested s h c).push [.doneTest h]) (k := k) (by rw [State.push_ctx, hctx]; exact hst) hat
    (by rw [State.push_ctx, hctx]; exact hn)] at htakes
  have hheld : (heldFor (rested s h c) h k).ctx h = { s.ctx h with state := .held, held := some k, next := none } := by
    rw [heldFor_ctx, hctx]
  have hlast := Takes.push (heldFor (rested s h c) h k) (.doneTest h) []
  rw [State.push_nil, show runTask (.doneTest h) (heldFor (rested s h c) h k) = _ from
    doneTest_stepless (by rw [hheld]; exact hs)] at hlast
  rw [(htakes.trans hlast).settled (by omega) (by rw [rested_stepless hs]; exact ha)]
  exact hheld

theorem settle_rest_blocked (ha : s.agenda = []) (hn : (s.ctx h).next = some .closing)
    (hb : isBlocked s h (.step (closingStart s h)) = true) :
    (settle (updateChannel h c s)).ctx h = { s.ctx h with state := .held, held := some .hold, next := none } := by
  obtain ⟨hat, htakes⟩ := takes_rest_stopping hr hj hrest
  have hctx := rested_ctx (c := c) hs
  rw [stoppingEnd_closing (s := (rested s h c).push [.doneTest h]) (by rw [State.push_ctx, hctx]; exact hst) hat
    (by rw [State.push_ctx, hctx]; exact hn), joinOrHold_blocked (by exact hb)] at htakes
  have hheld : (heldFor (begins (rested s h c) h .closing) h .hold).ctx h =
      { s.ctx h with state := .held, held := some .hold, next := none } := by
    rw [heldFor_ctx, begins_ctx, hctx]
  have hlast := Takes.push (heldFor (begins (rested s h c) h .closing) h .hold) (.doneTest h) []
  rw [State.push_nil, show runTask (.doneTest h) (heldFor (begins (rested s h c) h .closing) h .hold) = _ from
    doneTest_stepless (by rw [hheld]; exact hs)] at hlast
  rw [(htakes.trans hlast).settled (by omega) (by rw [rested_stepless hs]; exact ha)]
  exact hheld

theorem settle_rest_joins (ha : s.agenda = []) (hn : (s.ctx h).next = some .closing)
    (hb : isBlocked s h (.step (closingStart s h)) = false) (he : NoEntry s) (hc : s.arbiter.counter < 65535)
    (hf : s.supply.available < s.params.stepM (closingStart s h)) :
    ∃ v t, v.ctx h = { s.ctx h with state := .closing, held := none, next := none } ∧ v.params = s.params ∧ v.arbiter = s.arbiter ∧
      heelGates v = heelGates s ∧ Waits v t h (closingStart s h) ∧ settle (updateChannel h c s) = t.idle := by
  obtain ⟨hat, htakes⟩ := takes_rest_stopping hr hj hrest
  have hctx := rested_ctx (c := c) hs
  have htrip : s.tripped h = false := by
    have := hr.1
    simp only [channelHeld, Bool.or_eq_false_iff] at this
    exact this.1.1
  obtain ⟨v, hv⟩ : ∃ v, v = begins ((rested s h c).push [.doneTest h]) h .closing := ⟨_, rfl⟩
  rw [stoppingEnd_closing (s := (rested s h c).push [.doneTest h]) (by rw [State.push_ctx, hctx]; exact hst) hat
    (by rw [State.push_ctx, hctx]; exact hn), joinOrHold_joins (by exact hb) (by exact htrip), ← hv] at htakes
  have hctxv : v.ctx h = { s.ctx h with state := .closing, held := none, next := none } := by
    rw [hv, begins_ctx, State.push_ctx, hctx]
  obtain ⟨k, t, hk, hjoin, hw⟩ := takes_joinStep_waits (s := v) (h := h) (name := closingStart s h) (by rw [hv]; exact he) (by rw [hv]; exact hc)
    (by rw [hv]; exact hf)
  have hagenda : t.agenda = [.doneTest h] := by
    rw [hw.agenda, hv]
    exact congrArg (Task.doneTest h :: ·) ha
  have hphase : ∃ p, (t.ctx h).step = some p ∧ p.phase ≠ .active := by
    refine ⟨_, by rw [hw.ctx, withStep_ctx], ?_⟩
    dsimp only [joined]
    split <;> decide
  obtain ⟨p, hp, hne⟩ := hphase
  have hlast := Takes.last hagenda
  rw [show runTask (.doneTest h) t.idle = _ from doneTest_waits (s := t.idle) hp hne] at hlast
  exact ⟨v, t, hctxv, by rw [hv]; rfl, by rw [hv]; rfl, by rw [hv]; rfl, hw,
    ((htakes.trans hjoin).trans hlast).settled (by omega) rfl⟩

end

/-! ### The end of a jog, and of a ROLL step (R123, R57) -/

theorem jogOver_push (s : State) (j : Jog) (ts : List Task) : jogOver (s.push ts) j = (jogOver s j).push ts := by
  by_cases hm : (s.channel j.hatch j.channel).jogMaster = true
  · have hm' : ((s.push ts).channel j.hatch j.channel).jogMaster = true := hm
    rw [jogOver, jogOver, if_pos hm, if_pos hm']
    rfl
  · have hm' : ¬ ((s.push ts).channel j.hatch j.channel).jogMaster = true := hm
    rw [jogOver, jogOver, if_neg hm, if_neg hm']
    rfl

/-- The channel of a jog that is over goes back to its Sequencer's target (R123). -/
theorem jogOver_channel (s : State) (j : Jog) : ((jogOver s j).channel j.hatch j.channel).jogMaster = false ∧
    ((s.channel j.hatch j.channel).jogMaster = true →
      ((jogOver s j).channel j.hatch j.channel).target = (s.channel j.hatch j.channel).sequencerTarget) := by
  by_cases hm : (s.channel j.hatch j.channel).jogMaster = true
  · rw [jogOver, if_pos hm, show ∀ x : State, (x.setJog none).channel = x.channel from fun _ => rfl, State.channel_setChannel]
    exact ⟨rfl, fun _ => rfl⟩
  · rw [jogOver, if_neg hm, show ∀ x : State, (x.setJog none).channel = x.channel from fun _ => rfl]
    exact ⟨Bool.eq_false_iff.mpr hm, fun h => absurd h hm⟩

/-- The channel of an ENDING jog comes to rest. -/
theorem settle_rest_jog (hr : ComesToRest s h c) (ha : s.agenda = []) {j : Jog} (hj : s.drive.jog = some j) (hh : j.hatch = h)
    (hc : j.channel = c) (hp : j.phase = .ending) (hst : (s.ctx h).state ≠ .stopping) (hs : (s.ctx h).step = none)
    (ho : OnlyEntryOf s h) (hw : NothingWaits s h) :
    ∃ a : Arbiter, settle (updateChannel h c s) = withArbiter (jogOver (rested s h c) j) a ∧ a.pending = [] ∧ a.granted = [] := by
  subst hh hc
  obtain ⟨u, hu⟩ : ∃ u, u = rested s j.hatch j.channel := ⟨_, rfl⟩
  have hu' : u = s.setChannel j.hatch j.channel (updatedChannel s j.hatch j.channel) := by rw [hu, rested_stepless hs]
  have hrelease : updateChannel j.hatch j.channel s = (jogOver u j).push
      ([.leave j.hatch, .squallTry j.hatch, .reclampTest j.hatch] ++ [.stoppingEnd j.hatch, .doneTest j.hatch]) := by
    have hzero : (u.channel j.hatch j.channel).applied = 0 := by
      rw [hu, rested_channel]
      exact (updatedChannel_rest hr).1
    rw [updateChannel_rest hr, ← hu]
    have hjog : (u.push [.stoppingEnd j.hatch, .doneTest j.hatch]).drive.jog = some j := by rw [hu']; exact hj
    have hgo : jogReleaseIfRest (u.push [.stoppingEnd j.hatch, .doneTest j.hatch]) =
        jogRelease (u.push [.stoppingEnd j.hatch, .doneTest j.hatch]) := by
      simp only [jogReleaseIfRest, hjog]
      exact if_pos (by simp [hp, hzero])
    rw [hgo, jogRelease_eq hjog, jogOver_push, State.push_push]
  obtain ⟨hhatches, htable, -, -, harb, hagenda, -⟩ := jogOver_fields u j
  obtain ⟨a, htakes, hpend, hgrant⟩ := takes_leave (s := jogOver u j) (h := j.hatch)
    ([.squallTry j.hatch, .reclampTest j.hatch] ++ [.stoppingEnd j.hatch, .doneTest j.hatch]) (by rw [OnlyEntryOf, harb, hu']; exact ho)
  have hwaits : NothingWaits (withArbiter (jogOver u j) a) j.hatch :=
    nothingWaits_congr (hhatches.trans (by rw [hu']; rfl)) (htable.trans (by rw [hu']; rfl)) hw
  have hctx : (withArbiter (jogOver u j) a).ctx j.hatch = s.ctx j.hatch := by
    rw [withArbiter_ctx, State.ctx, hhatches, hu']
    rfl
  have hinert := Takes.inert (s := withArbiter (jogOver u j) a)
    ([.squallTry j.hatch, .reclampTest j.hatch] ++ [.stoppingEnd j.hatch, .doneTest j.hatch]) fun t ht us => by
      simp only [List.cons_append, List.nil_append, List.mem_cons, List.not_mem_nil, or_false] at ht
      rcases ht with rfl | rfl | rfl | rfl
      · exact squallTry_unmarked hwaits.1
      · exact reclampTest_nothing hwaits.2
      · exact stoppingEnd_not (by rw [State.push_ctx, hctx]; exact hst)
      · exact doneTest_stepless (by rw [State.push_ctx, hctx]; exact hs)
  refine ⟨a, ?_, hpend, hgrant⟩
  rw [hrelease, ← hu]
  exact (htakes.trans hinert).settled (by simp) (by rw [withArbiter_agenda, hagenda, hu']; exact ha)

/-- What follows a ROLL step whose panels have arrived (R58). -/
def afterRoll (n : StepName) : StepName := if n = .rollOut then .park else .lower

/-- The last roll channel of an arrived ROLL step comes to rest: the step completes, its entry leaves, and its boundary follows. -/
theorem takes_rest_roll (hr : ComesToRest s h c) (hj : s.drive.jog = none) {st : StepCtx} (hs : (s.ctx h).step = some st)
    (hp : st.phase = .active) (hroll : st.name.isRoll = true) (harr : st.arrived = ⟨true, true⟩)
    (hrest : ∀ q, rollChannel q ≠ c → (s.channel h (rollChannel q)).applied = 0) (hst : (s.ctx h).state ≠ .stopping)
    (ho : OnlyEntryOf s h) (ha : s.agenda = []) :
    ∃ v : State, v.ctx h = { s.ctx h with step := none } ∧ v.agenda = [] ∧ v.arbiter.pending = [] ∧ v.arbiter.granted = [] ∧
      v.arbiter.counter = s.arbiter.counter ∧ v.params = s.params ∧ v.supply = s.supply ∧ v.stops = s.stops ∧
      (isBlocked v h = isBlocked s h) ∧ Takes 4 (updateChannel h c s) (joinOrHold v h (afterRoll st.name)) := by
  obtain ⟨u, hu⟩ : ∃ u, u = rested s h c := ⟨_, rfl⟩
  have hctx : ∃ st' : StepCtx, u.ctx h = { s.ctx h with step := some st' } ∧ st'.phase = .active ∧ st'.name = st.name ∧
      st'.arrived = ⟨true, true⟩ := by
    obtain ⟨x, hx⟩ := syncStall_step (s := s.setChannel h c (updatedChannel s h c)) (h := h) hs
    exact ⟨{ st with stallTimer := x }, by rw [hu]; exact hx, hp, rfl, harr⟩
  obtain ⟨st', hctx, hp', hn', harr'⟩ := hctx
  have hzero : ∀ q, (u.channel h (rollChannel q)).applied = 0 := fun q => by
    by_cases hq : rollChannel q = c
    · rw [hu, hq, rested_channel]
      exact (updatedChannel_rest hr).1
    · rw [hu, rested_channel_ne (s := s) (h := h) (c := c) (g := h) (d := rollChannel q) fun he => hq (congrArg Prod.snd he)]
      exact hrest q hq
  have hfirst : Takes 1 (updateChannel h c s) (u.push [.doneTest h]) := by
    rw [updateChannel_rest hr, jogReleaseIfRest_noJog (by exact hj), ← hu]
    have := Takes.push u (.stoppingEnd h) [.doneTest h]
    rwa [show runTask (.stoppingEnd h) (u.push [.doneTest h]) = _ from
      stoppingEnd_not (s := u.push [.doneTest h]) (by rw [State.push_ctx, hctx]; exact hst)] at this
  have hdone : doneTest u h = (dropStep u h).push [.leave h, .boundary h st.name] := by
    have hisDone : isDone u h st' = true := by
      have h1 : (u.channel h .rollPort).applied = 0 := hzero .port
      have h2 : (u.channel h .rollStbd).applied = 0 := hzero .stbd
      cases hname : st.name <;> simp_all [isDone, StepName.isRoll]
    have hcomplete : complete u h st'.name = (dropStep u h).push [.leave h, .boundary h st.name] := by
      rw [hn']
      cases hname : st.name <;> simp_all [complete, StepName.isRoll, removeEntry, State.push_push]
    simp only [doneTest, hctx, hp', decide_true, hisDone, Bool.and_self, if_true, hcomplete]
  have hsecond := Takes.push u (.doneTest h) []
  rw [State.push_nil, show runTask (.doneTest h) u = _ from hdone] at hsecond
  obtain ⟨a, hleave, hpend, hgrant, hcount⟩ := takes_leave_counted (s := dropStep u h) (h := h) [.boundary h st.name] (by rw [hu]; exact ho)
  have hlast := Takes.push (withArbiter (dropStep u h) a) (.boundary h st.name) []
  have hboundary : boundary (withArbiter (dropStep u h) a) h st.name = joinOrHold (withArbiter (dropStep u h) a) h (afterRoll st.name) := by
    cases hname : st.name <;> simp_all [boundary, StepName.isRoll, afterRoll]
  rw [State.push_nil, show runTask (.boundary h st.name) (withArbiter (dropStep u h) a) = _ from hboundary] at hlast
  refine ⟨withArbiter (dropStep u h) a, ?_, by rw [hu]; exact ha, hpend, hgrant, hcount.trans (by rw [hu]; rfl), by rw [hu]; rfl, by rw [hu]; rfl,
    by rw [hu]; rfl, by rw [hu]; rfl, ((hfirst.trans hsecond).trans hleave).trans hlast⟩
  rw [withArbiter_ctx, dropStep_ctx, hctx]

end

end Sys2Proof.Machine

namespace Sys2Proof.Drives
open Sys2Proof Sys2Proof.Machine Sys2Proof.Safety

/-- Settles O37: the movement of one channel, and the event of its coming to rest. -/
theorem driveUpdateMovesChannel : Obligations.DriveUpdateMovesChannel := by
  intro s h c ⟨hreset, ha⟩ r p roll down comesToRest queued
  have hexec : exec (.driveUpdate h c) s = .next (settle (updateChannel h c s)) := by
    rw [show exec (.driveUpdate h c) s = execDriveUpdate h c s from rfl, execDriveUpdate, event_running hreset]
  have hroll : (rollPanel? c).isSome = roll := rollPanel_isSome c
  have hrest : comesToRest → ComesToRest s h c := fun ⟨h1, h2, h3, h4, h5⟩ => ⟨h1, h2, h3, h4, by rw [hroll]; exact h5⟩
  obtain ⟨t, ht⟩ : ∃ t, t = settle (updateChannel h c s) := ⟨_, rfl⟩
  have hplant : r.mismatchTimer < 180 → ∀ g d, (t.channel g d).plant = ((s.setChannel h c (updatedChannel s h c)).channel g d).plant :=
    fun hm g d => by rw [ht]; exact settle_updateChannel_plant hm g d
  have hown : r.mismatchTimer < 180 → (t.channel h c).plant = (updatedChannel s h c).plant := fun hm => by
    rw [hplant hm, State.channel_setChannel]
  refine ⟨t, by rw [hexec, ht], fun hm g d hne => ?others, fun hheld => by rw [ht]; exact settle_updateChannel_held hheld, fun hm => ?duty,
    fun hheld hm => ?moves, ?stops, ?jog, ?rolls⟩
  case others =>
    have hsame := hplant hm g d
    rw [State.channel_setChannel_ne s _ hne] at hsame
    exact ⟨(congrArg ChannelRec.applied hsame).trans rfl, (congrArg ChannelRec.working hsame).trans rfl,
      (congrArg ChannelRec.duty hsame).trans rfl⟩
  case duty =>
    have happ := congrArg ChannelRec.applied (hown hm)
    have hduty := congrArg ChannelRec.duty (hown hm)
    rw [show (t.channel h c).applied = (updatedChannel s h c).applied from happ, ← hroll]
    exact hduty.trans (updatedChannel_duty s h c)
  case moves =>
    obtain ⟨x, hx, hxa, hxw, hxd⟩ := updatedChannel_moved hheld
    have happ : (t.channel h c).applied = x.applied := (congrArg ChannelRec.applied (hown hm)).trans hxa
    have hwork : (t.channel h c).working = x.working := (congrArg ChannelRec.working (hown hm)).trans hxw
    have hdead : (t.channel h c).deadtime = x.deadtime := (congrArg ChannelRec.deadtime (hown hm)).trans hxd
    rw [hroll] at hx
    intro moved
    have hmoved : ∀ y : ChannelRec, x = y → moved y.applied y.working y.deadtime := fun y hy => hy ▸ ⟨happ, hwork, hdead⟩
    refine ⟨fun hc => hmoved _ (hx.trans (moved_rests hc)), fun hc => ⟨fun hw hlt => ?_, fun hw hge => ?_, fun hw hd => ?_, fun hw hd => ?_,
      fun hw hd => ?_, fun hw hd => ?_⟩⟩
    · have := hmoved _ (hx.trans (moved_along hc hw))
      rwa [if_pos hlt] at this
    · have := hmoved _ (hx.trans (moved_along hc hw))
      rwa [if_neg (Nat.not_lt.mpr hge)] at this
    · exact hmoved { r with applied := down } (hx.trans ((moved_against hc hw).trans (if_neg (Nat.ne_of_gt hd))))
    · exact hmoved { r with applied := 0, working := none, deadtime := p.deadtime } (hx.trans ((moved_against hc hw).trans (if_pos hd)))
    · have := hmoved _ (hx.trans ((moved_from_none hc hw).trans (if_pos hd)))
      rwa [show r.deadtime = 0 from hd] at this
    · have := hmoved _ (hx.trans ((moved_from_none hc hw).trans (if_neg (Nat.ne_of_gt hd))))
      rwa [show (s.channel h c).working = none from hw] at this
  case stops =>
    intro hcr hj hst hs hothers
    have hr := hrest hcr
    refine ⟨fun k hn => by rw [ht]; exact settle_rest_held hr hj hst hs hothers ha hn, fun hn => ?_⟩
    intro start gated
    refine ⟨fun hb => by rw [ht]; exact settle_rest_blocked hr hj hst hs hothers ha hn hb, fun hb he hf hc => ?_⟩
    obtain ⟨v, w, hctx, hparams, harb, hheel, hw, hsettle⟩ := settle_rest_joins hr hj hst hs hothers ha hn hb he hc hf
    have hcls : classFor (v.ctx h) start = classFor (s.ctx h) start := by rw [hctx]; rfl
    rw [ht, hsettle]
    refine ⟨?_, ?_, hw.granted⟩
    · rw [State.idle_ctx, hw.ctx, withStep_ctx, hcls, hheel, hctx]
    · have := hw.pending
      rw [hheel, newJoin, hcls, hparams, harb] at this
      exact this
  case jog =>
    intro j hj hh hc hp hcr hst hs ho hwait
    have hr := hrest hcr
    obtain ⟨a, hsettle, hpend, hgrant⟩ := settle_rest_jog hr ha hj hh hc hp hst hs ho hwait
    obtain ⟨hhatches, -⟩ := jogOver_fields (rested s h c) j
    have hat : (rested s h c).channel h c = updatedChannel s h c := rested_channel s h c
    obtain ⟨-, hmaster, hseq, -⟩ := updatedChannel_rest hr
    have hkept : (rested s h c).hatches = s.hatches := by rw [rested_stepless hs]; rfl
    obtain ⟨hoff, htarget⟩ := jogOver_channel (rested s h c) j
    rw [hh, hc] at hoff htarget
    rw [hat] at htarget
    rw [ht, hsettle]
    exact ⟨rfl, ⟨hpend, hgrant⟩, hhatches.trans hkept, hoff, fun hm => (htarget (hmaster.trans hm)).trans hseq⟩
  case rolls =>
    intro st hs hp hroll' harr hrc hcr hzero hj hst ho after
    have hr := hrest hcr
    obtain ⟨v, hctx, hagenda, hpend, hgrant, hcount, hparams, hsupply, hstops, hblock, htakes⟩ := takes_rest_roll hr hj hs hp hroll' harr hzero
      (by rw [hst]; split <;> decide) ho ha
    rw [ht]
    refine ⟨fun hb => ?_, fun hb hf hc => ?_⟩
    · rw [joinOrHold_blocked (by rw [hblock]; exact hb)] at htakes
      rw [htakes.settled (by omega) hagenda]
      exact ⟨by rw [heldFor_ctx, hctx], hpend, hgrant⟩
    · have htrip : v.tripped h = false := by
        have hheld := hcr.1
        simp only [channelHeld, Bool.or_eq_false_iff] at hheld
        rw [State.tripped, hstops]
        exact hheld.1.1
      rw [joinOrHold_joins (by rw [hblock]; exact hb) htrip] at htakes
      obtain ⟨k, w, hk, hjoin, hw⟩ := takes_joinStep_waits (s := v) (h := h) (name := after) ⟨hpend, hgrant⟩ (by rw [hcount]; exact hc)
        (by rw [hsupply, hparams]; exact hf)
      have hng : (after.isRoll && heelGates v) = false := by
        rw [show after.isRoll = false by simp only [after]; split <;> rfl, Bool.false_and]
      have hcls : classFor (v.ctx h) after = classFor (s.ctx h) after := by rw [hctx]; rfl
      rw [(htakes.trans hjoin).settled (by omega) (hw.agenda.trans hagenda)]
      refine ⟨?_, ?_, hw.granted⟩
      · rw [hw.ctx, withStep_ctx, hcls, hng, hctx]
        rfl
      · have := hw.pending
        rw [hng, newJoin, hcls, hparams, hcount] at this
        exact this

end Sys2Proof.Drives
end

section
/-!
JUNCTION_FRAME in which two cleats of a CLOSED hatch leave ENGAGED (R8, R153), and the limit of hand-offs of one event (assumption log
1): where the Arbiter holds more entries of another hatch than there are hand-offs to an event, the second verdict change is not
handed on.
-/

namespace Sys2Proof.Machine
open Sys2Proof Sys2Proof.Safety

/-! ### What a good frame leaves to its hand-offs -/

namespace FlowKept

theorem rejudge (s : State) (h : Hatch) : FlowKept s (rejudge s h) := by
  simp only [Machine.rejudge]
  repeat' split
  · exact refl s
  · exact trans (t := judged s h) ⟨rfl, rfl, rfl⟩ (clearMark _ h)
  · exact ⟨rfl, rfl, rfl⟩

theorem deriveIfReady (s : State) (h : Hatch) : FlowKept s (deriveIfReady s h) := by
  have derives : FlowKept s (derive s h .restart) := (updCtx s h _).trans ((updCtx _ h _).trans (rejudge _ h))
  simp only [Machine.deriveIfReady]
  split
  · exact derives.trans (push _ _)
  · exact refl s

theorem foldl {f : State → CleatId → State} (hf : ∀ u id, FlowKept u (f u id)) (ids : List CleatId) (u : State) :
    FlowKept u (ids.foldl f u) := by
  induction ids generalizing u with
  | nil => exact refl u
  | cons id ids ih => exact (hf u id).trans (ih _)

theorem retainCounts (s t : State) (h : Hatch) : FlowKept t (retainCounts s t h) := by
  refine foldl (fun u id => ?_) _ t
  split
  · exact refl u
  · rw [retain_eq]
    exact ⟨rfl, rfl, rfl⟩

theorem goodFrame (s : State) (h : Hatch) (bs : List Byte) : FlowKept s (goodFrame s h bs) := by
  refine trans ?_ (deriveIfReady _ h)
  refine trans ?_ (rejudge _ h)
  refine trans ?_ (push _ _)
  exact trans ⟨rfl, rfl, rfl⟩ (retainCounts _ _ h)

theorem takeCleatChange (s : State) (id : CleatId) (old new : CleatVerdict) : FlowKept s (takeCleatChange s id old new) := by
  have trigger : ∀ u : State, FlowKept u (reclampTrigger u id old new) := fun u => by
    simp only [reclampTrigger]
    repeat' split
    all_goals exact ⟨rfl, rfl, rfl⟩
  have done : ∀ u : State, FlowKept u (doneTest u (cleatHatch id)) := fun u => by
    simp only [doneTest]
    repeat' split
    · simp only [complete]
      split <;> exact ⟨rfl, rfl, rfl⟩
    all_goals exact refl u
  simp only [Machine.takeCleatChange]
  split
  · exact (push s _).trans ((trigger _).trans (done _))
  · exact (trigger s).trans (done _)

end FlowKept

/-! ### A RECLAMP beside the crowd -/

/-- An ENGAGED cleat that has been sampled RELEASED twice. -/
def slipping : CleatRec := ⟨false, true, .inService, [⟨false, true⟩, ⟨false, true⟩], .engaged, none, none, 0, 0, .no, false⟩

/-- The crowd with H1 CLOSED and a RECLAMP ACTIVE, two of its cleats one sample short of RELEASED. -/
def slippingCrowd (n : Nat) : State :=
  { crowded n with
    hatches := State.reset.hatches.upd 0 fun c => { c with
      state := .closed
      step := some { joined .reclamp .secure .active with started := true } }
    junctions := State.reset.junctions.upd 0 fun j => { j with state := .online }
    table := { State.reset.table with slots := (State.reset.table.slots.set 0 (some slipping)).set 1 (some slipping) } }

/-- A good frame of H1 with both cleats RELEASED. -/
def slipFrame : List Byte :=
  [0x50, 0, 0, 0, 0, 0, 0, 0, 0, 0, 0, 0, 0] ++ [crc8 [0x50, 0, 0, 0, 0, 0, 0, 0, 0, 0, 0, 0, 0]]

/-- The part once the first verdict change of the frame has been handed on. -/
def firstSlip : State :=
  runTask (.cleatChange 0 .engaged .released)
    { goodFrame (slippingCrowd 4096) 0 slipFrame with agenda := (goodFrame (slippingCrowd 4096) 0 slipFrame).agenda.tail }

theorem slippingCrowd_head : (goodFrame (slippingCrowd 4096) 0 slipFrame).agenda.head? = some (.cleatChange 0 .engaged .released) := by
  decide +kernel

/-- The first verdict change ends the RECLAMP, whose withdrawal comes next. -/
theorem firstSlip_head : firstSlip.agenda.head? = some (.leave 0) := by decide +kernel

theorem firstSlip_slot : (firstSlip.slot 1).map (fun r => (r.verdict, r.wanted)) = some (.released, .no) := by decide +kernel

theorem slippingCrowd_flowKept (n : Nat) : FlowKept (crowded n) (slippingCrowd n) := ⟨rfl, rfl, rfl⟩

theorem firstSlip_flowKept : FlowKept (crowded 4096) firstSlip := by
  have hgood := (slippingCrowd_flowKept 4096).trans (.goodFrame _ 0 slipFrame)
  rw [firstSlip]
  revert hgood
  generalize goodFrame (slippingCrowd 4096) 0 slipFrame = g
  generalize crowded 4096 = s
  intro hgood
  exact (hgood.trans (t := g) (u := { g with agenda := g.agenda.tail }) ⟨rfl, rfl, rfl⟩).trans (.takeCleatChange _ 0 _ _)

theorem settle_slippingCrowd : (settle (goodFrame (slippingCrowd 4096) 0 slipFrame)).table = firstSlip.table := by
  obtain ⟨ts, hts⟩ := List.head?_eq_some_iff.mp slippingCrowd_head
  obtain ⟨us, hus⟩ := List.head?_eq_some_iff.mp firstSlip_head
  have hfirst : settle (goodFrame (slippingCrowd 4096) 0 slipFrame) = drain (4094 + 1) firstSlip := by
    rw [settle, drain_cons 4095 hts, firstSlip, hts]
    rfl
  rw [hfirst]
  exact (drain_crowded (k := 4094) (n := 4096) (by decide) (by decide) hus firstSlip_flowKept).2

end Sys2Proof.Machine

namespace Sys2Proof.Sensors
open Sys2Proof Sys2Proof.Machine Sys2Proof.Safety

/-- Refutes O59: two cleats of a CLOSED hatch leave ENGAGED in one frame, the first ends the RECLAMP in progress, and with 4096 entries of
H2 in the Arbiter the hand-offs of the frame come to their limit (assumption log 1) before the second is wanted. -/
theorem not_goodFrameIsSampled : ¬ Obligations.GoodFrameIsSampled := by
  intro hall
  obtain ⟨-, -, hgood⟩ := hall (slippingCrowd 4096) 0 slipFrame ⟨rfl, rfl⟩
  obtain ⟨t, hexec, -, -, -, -, -, -, -, -, -, -, -, -, -, hslips⟩ := hgood (by decide +kernel) (by decide +kernel)
  have hexec' : exec (.junctionFrame 0 slipFrame) (slippingCrowd 4096) = .next (settle (goodFrame (slippingCrowd 4096) 0 slipFrame)) := by
    rw [show exec (.junctionFrame 0 slipFrame) (slippingCrowd 4096) = execJunctionFrame 0 slipFrame (slippingCrowd 4096) from rfl,
      execJunctionFrame, event_running rfl, if_neg (by decide +kernel), if_neg (by decide +kernel)]
  have htable : t.table = firstSlip.table := by
    rw [← Host.Outcome.next.inj (hexec'.symm.trans hexec), settle_slippingCrowd]
  obtain ⟨u, hu, hvalues⟩ := Option.map_eq_some_iff.mp firstSlip_slot
  obtain ⟨hverdict, hwanted⟩ := Prod.mk.inj hvalues
  have hslot : t.slot 1 = some u := by rw [State.slot, htable]; exact hu
  obtain ⟨hfew, -⟩ := (hslips (by decide +kernel) (by decide +kernel) 1 slipping u (by decide +kernel) (by decide +kernel) hslot rfl rfl rfl
    (.inl hverdict) rfl).1 (.inr (by unfold Reclamping; decide +kernel))
  exact (hfew (by decide)).1 hwanted

end Sys2Proof.Sensors
end

section
/-!
The image becomes VALID (R180): the ratings of the pump sets (R90), the records of the Securing Table (R2, R23), and the end of a
parameter write (R182, R183).
-/

namespace Sys2Proof.Machine
open Sys2Proof Sys2Proof.Safety

theorem Tbl.items_all_iff {n : Nat} {α : Type} {t : Tbl n α} {p : α → Bool} : t.items.all p = true ↔ ∀ i, p (t.get i) = true := by
  obtain ⟨l, rfl⟩ := t
  rw [List.all_eq_true, List.forall_mem_iff_getElem]
  exact ⟨fun h i => h i.val i.isLt, fun h i hi => h ⟨i, hi⟩⟩

/-! ### The rated flow of a pump set (R90) -/

/-- A pump set that takes a rated flow. -/
def Pump.rerated (p : Pump) (v : Nat) : Pump :=
  let q := { p with rated := v }
  match p.state with
  | .disabled =>
    if v = 0 then q else if p.feedback then { q with state := .tripped, cause := some .failToStop } else { q with state := .off }
  | .off => if v = 0 then { q with state := .disabled } else q
  | .starting | .running => if v = 0 then q.stopped else q
  | .stopping | .tripped => q

theorem Pump.rerated_rated (p : Pump) (v : Nat) : (p.rerated v).rated = v := by
  cases hs : p.state <;> simp only [Pump.rerated, hs] <;> repeat' split
  all_goals rfl

theorem setRating_eq (s : State) (k : PumpId) (v : Nat) : setRating s k v = s.setPump k ((s.pump k).rerated v) := by
  obtain ⟨p, hp⟩ : ∃ p, p = s.pump k := ⟨_, rfl⟩
  simp only [setRating, State.pump_setPump, ← hp]
  cases hs : p.state <;> simp only [Pump.rerated, hs]
  case disabled => repeat' split
                   all_goals simp [tripPump, State.setPump_setPump]
  case off => split <;> simp [State.setPump_setPump]
  case starting | running =>
    split
    · simp [stopPump, Pump.stopped, State.setPump_setPump]
    · rfl

section
variable {s t u : State}

/-- A change of the pump sets alone. -/
theorem flowOnly_setPump (s : State) (k : PumpId) (p : Pump) : FlowOnly s (s.setPump k p) := rfl

theorem flowOnly_of_onlyFlowChanges (h : OnlyFlowChanges s t) : FlowOnly s t := by
  obtain ⟨v, a, rfl⟩ := onlyFlowChanges_iff.mp h
  rfl

theorem FlowOnly.holds (h : FlowOnly s t) : t.holds = s.holds := h.field State.holds fun _ _ _ => rfl
theorem FlowOnly.stops (h : FlowOnly s t) : t.stops = s.stops := h.field State.stops fun _ _ _ => rfl

theorem syncAvailable_flowOnly (s : State) : FlowOnly s (syncAvailable s) := by
  simp only [syncAvailable]
  split
  · exact .refl s
  · exact FlowOnly.trans (t := { s with supply := { s.supply with available := availableNow s } }) rfl (allocate_flowOnly _)

theorem pumpsChanged_flowOnly (s : State) : FlowOnly s (pumpsChanged s) := by
  obtain ⟨v, heq, -⟩ := pumpsChanged_eq s
  rw [heq]
  exact FlowOnly.trans (t := { s with supply := v }) rfl (allocate_flowOnly _)

/-- The rated flows are those of the image. -/
def Rated (p : Image) (s : State) : Prop := ∀ k, (s.pump k).rated = p.rated k

theorem rated_of_outer {p : Image} (h : t.outer = s.outer) (hr : Rated p s) : Rated p t := fun k =>
  (congrArg Pump.rated (plate_of_outer h k)).trans (hr k)

theorem rated_syncAvailable {p : Image} (hr : Rated p s) : Rated p (syncAvailable s) :=
  rated_of_outer (syncAvailable_outer s) hr

theorem rated_pumpsChanged {p : Image} (hr : Rated p s) : Rated p (pumpsChanged s) := by
  obtain ⟨v, heq, hpumps, -⟩ := pumpsChanged_eq s
  rw [heq]
  refine rated_of_outer (allocate_outer _) fun k => ?_
  rw [State.pump, hpumps]
  exact hr k

theorem ratingsTaken_flowOnly (s t : State) : FlowOnly t (ratingsTaken s t) := by
  simp only [ratingsTaken]
  split
  · exact syncAvailable_flowOnly t
  · exact pumpsChanged_flowOnly t

/-- The three ratings of the image, set by set. -/
def setRatings (s : State) : State :=
  [(0 : PumpId), 1, 2].foldl (fun t k => t.setPump k ((s.pump k).rerated (s.store.copy.rated k))) s

theorem takeRatings_eq (s : State) : takeRatings s = ratingsTaken s (setRatings s) := by
  simp only [takeRatings, setRatings, List.foldl_cons, List.foldl_nil, setRating_eq]
  have hne : ∀ (u : State) (i j : PumpId) (p : Pump), i ≠ j → (u.setPump i p).pump j = u.pump j := fun u _ _ p h =>
    State.pump_setPump_ne u p h
  rw [hne _ 1 2 _ (by decide), hne _ 0 2 _ (by decide), hne _ 0 1 _ (by decide)]
  rfl

theorem setRatings_pump (s : State) (k : PumpId) : (setRatings s).pump k = (s.pump k).rerated (s.store.copy.rated k) := by
  simp only [setRatings, List.foldl_cons, List.foldl_nil]
  fin_cases k <;> simp [State.pump, State.setPump]

theorem takeRatings_rated (s : State) : FlowOnly s (takeRatings s) ∧ Rated s.store.copy (takeRatings s) := by
  have hset : Rated s.store.copy (setRatings s) := fun k => by rw [setRatings_pump, Pump.rerated_rated]
  rw [takeRatings_eq]
  refine ⟨FlowOnly.trans (t := setRatings s) rfl (ratingsTaken_flowOnly _ _), ?_⟩
  simp only [ratingsTaken]
  split
  · exact rated_syncAvailable hset
  · exact rated_pumpsChanged hset

theorem idleExpires_flowOnly (s : State) : FlowOnly s (idleExpires s) := by
  obtain ⟨honly, -⟩ := stopRunning_spec { s with arbiter := { s.arbiter with idleTimer := s.params.idleTime } }
  have hstopped : FlowOnly s (stopRunning { s with arbiter := { s.arbiter with idleTimer := s.params.idleTime } }) :=
    FlowOnly.trans (t := { s with arbiter := { s.arbiter with idleTimer := s.params.idleTime } }) rfl (flowOnly_of_onlyFlowChanges honly)
  simp only [idleExpires]
  split
  · exact hstopped
  · exact hstopped.trans (pumpsChanged_flowOnly _)

theorem idleChanged_flowOnly (old : Nat) (s : State) : FlowOnly s (idleChanged old s) := by
  simp only [idleChanged]
  repeat' split
  · exact .refl s
  · exact idleExpires_flowOnly s
  · rfl

theorem rated_idleChanged {p : Image} (old : Nat) (hr : Rated p s) : Rated p (idleChanged old s) := by
  have hexpires : Rated p (idleExpires s) := by
    obtain ⟨-, -, hpump⟩ := stopRunning_spec { s with arbiter := { s.arbiter with idleTimer := s.params.idleTime } }
    have hstopped : Rated p (stopRunning { s with arbiter := { s.arbiter with idleTimer := s.params.idleTime } }) := fun k => by
      rw [hpump, Pump.stoppedIfRunning]
      split <;> exact hr k
    simp only [idleExpires]
    split
    · exact hstopped
    · exact rated_pumpsChanged hstopped
  simp only [idleChanged]
  repeat' split
  · exact hr
  · exact hexpires
  · exact hr

/-! ### The records of the Securing Table (R2, R23) -/

theorem restoredSlot_isSome (k : Kept) (p : Image) (id : CleatId) : (restoredSlot k (builtSlot p id)).isSome = p.fitted id := by
  have hbuilt : (builtSlot p id).isSome = p.fitted id := by
    simp only [builtSlot]
    split
    · rename_i hf
      rw [hf]
      rfl
    · rename_i hf
      rw [Bool.eq_false_iff.mpr hf]
      rfl
  simp only [restoredSlot]
  split
  · rename_i hagrees
    rw [← hbuilt]
    cases hb : builtSlot p id <;> cases hk : k.service <;> simp_all [Kept.agrees]
  · exact hbuilt

/-- The records that the image builds, and the retention memory that the writes of the others leave. -/
theorem buildTable_eq (s : State) : ∃ r, buildTable s = { s with
    table := { s.table with
      slots := Tbl.build fun id => restoredSlot (s.retention.cleats.get id) (builtSlot s.store.copy id) }
    retention := r } := by
  have hfold : ∀ (ids : List CleatId) (u : State),
      ∃ r, ids.foldl (fun s id => retain s (.cleat id)) u = { u with retention := r } := by
    intro ids
    induction ids with
    | nil => exact fun u => ⟨_, rfl⟩
    | cons id ids ih =>
      intro u
      obtain ⟨r, hr⟩ := ih (retain u (.cleat id))
      exact ⟨r, by rw [List.foldl_cons, hr, retain_eq]⟩
  exact hfold _ _

/-! ### The image becomes VALID -/

/-- The part with the image VALID, its records built and its ratings taken, before the hatches are derived (R180). -/
def imageTaken (s : State) : State :=
  idleChanged Image.default.idleTime (takeRatings (buildTable { s with store := { s.store with image := .valid } }))

theorem imageTaken_spec (s : State) : FlowOnly (buildTable { s with store := { s.store with image := .valid } }) (imageTaken s) ∧
    Rated s.store.copy (imageTaken s) := by
  obtain ⟨r, hbuild⟩ := buildTable_eq { s with store := { s.store with image := .valid } }
  obtain ⟨hflow, hrated⟩ := takeRatings_rated (buildTable { s with store := { s.store with image := .valid } })
  have hcopy : (buildTable { s with store := { s.store with image := .valid } }).store.copy = s.store.copy := by rw [hbuild]
  rw [hcopy] at hrated
  exact ⟨hflow.trans (idleChanged_flowOnly _ _), rated_idleChanged _ hrated⟩

theorem foldr_outer {f : Hatch → State → State} (hf : ∀ h u, (f h u).outer = u.outer) (hs : List Hatch) (u : State) :
    (hs.foldr f u).outer = u.outer := by
  induction hs with
  | nil => rfl
  | cons h hs ih => exact (hf h _).trans ih

theorem rejudgeAll_outer (s : State) : (rejudgeAll s).outer = s.outer := foldr_outer (fun h u => rejudge_outer u h) _ s

theorem imageBecomesValid_eq (s : State) : imageBecomesValid s =
    rejudgeAll (allHatches.foldr (fun h s => deriveIfReady s h) (imageTaken s)) := rfl

theorem imageBecomesValid_outer (s : State) : (imageBecomesValid s).outer = (imageTaken s).outer := by
  rw [imageBecomesValid_eq, rejudgeAll_outer, foldr_outer fun h u => deriveIfReady_outer u h]

theorem isSome_of_outer (h : t.outer = s.outer) (id : CleatId) : (t.slot id).isSome = (s.slot id).isSome := by
  have := congrArg Option.isSome (steady_of_outer h id)
  simpa using this

/-- A part that has the image: it is VALID, the sets have its ratings and the table its records. -/
theorem imageTaken_facts (h : t.outer = (imageTaken s).outer) : t.store = { s.store with image := .valid } ∧ Rated s.store.copy t ∧
    ∀ id, (t.slot id).isSome = s.store.copy.fitted id := by
  obtain ⟨r, hbuild⟩ := buildTable_eq { s with store := { s.store with image := .valid } }
  obtain ⟨hflow, hrated⟩ := imageTaken_spec s
  refine ⟨(store_of_outer h).trans (hflow.store.trans (by rw [hbuild])), rated_of_outer h hrated, fun id => ?_⟩
  rw [isSome_of_outer h, State.slot, hflow.table, hbuild, Tbl.get_build]
  exact restoredSlot_isSome _ _ _

/-! ### The end of a parameter write (R182, R183) -/

theorem answerWrite_eq {w : ParamWrite} {o : Outstanding} (stored : Bool) (ho : (s.station 13).outstanding = some o) :
    answerWrite s w stored = { s with link := { s.link with
      stations := s.link.stations.set 13 { s.station 13 with outstanding := none }
      tx := s.link.tx ++ [⟨0x28D, eightBytes ([o.kind, o.tag, 0, byteOf (w.item + if stored then 0 else 128)] ++
        bytes2 w.index ++ signed2 w.value)⟩] } } := by
  have ho' : (s.station serviceStation).outstanding = some o := ho
  simp only [answerWrite, ho']
  cases stored <;> rfl

theorem markWritten_eq {w : ParamWrite} {k : Fin 949} (hk : k.val = itemPlace w.item w.index) : markWritten s w =
    { s with store := { s.store with written := s.store.written.set k true } } := by
  have hlt : itemPlace w.item w.index < 949 := hk ▸ k.isLt
  rw [markWritten, dif_pos hlt, show (⟨itemPlace w.item w.index, hlt⟩ : Fin 949) = k from Fin.ext hk.symm]

theorem writeEnded_eq {w : ParamWrite} {o : Outstanding} {k : Fin 949} (ho : (s.station 13).outstanding = some o)
    (hk : k.val = itemPlace w.item w.index) : writeEnded s w = { s with
      store := { s.store with
        write := none
        written := s.store.written.set k true
        unsaved := if s.store.unsaved = some (w.item, w.index) then none else s.store.unsaved }
      link := { s.link with
        stations := s.link.stations.set 13 { s.station 13 with outstanding := none }
        tx := s.link.tx ++ [⟨0x28D, eightBytes ([o.kind, o.tag, 0, byteOf w.item] ++ bytes2 w.index ++ signed2 w.value)⟩] } } := by
  simp only [writeEnded, markWritten_eq hk]
  exact answerWrite_eq (s := { s with store := _ }) true ho

theorem writeLost_eq {w : ParamWrite} {o : Outstanding} (ho : (s.station 13).outstanding = some o) : writeLost s w = { s with
      store := { s.store with
        write := none
        unsaved := s.store.unsaved.or (some (w.item, w.index)) }
      link := { s.link with
        stations := s.link.stations.set 13 { s.station 13 with outstanding := none }
        tx := s.link.tx ++ [⟨0x28D, eightBytes ([o.kind, o.tag, 0, byteOf (w.item + 128)] ++ bytes2 w.index ++ signed2 w.value)⟩] } } := by
  cases hu : s.store.unsaved <;> simp only [writeLost, hu]
  · exact answerWrite_eq (s := { s with store := { s.store with write := none, unsaved := some (w.item, w.index) } }) false ho
  · exact answerWrite_eq (s := { s with store := { s.store with write := none, unsaved := some _ } }) false ho

theorem imageValid_iff : s.imageValid = true ↔ s.store.image = .valid := decide_eq_true_iff

end

end Sys2Proof.Machine

namespace Sys2Proof.Params
open Sys2Proof Sys2Proof.Machine Sys2Proof.Safety

/-- Settles O56: the answer of a write, its mark, and the last mark with which the image becomes VALID. -/
theorem writeEndsAnswered : Obligations.WriteEndsAnswered := by
  intro s w o k ⟨hr, ha⟩ hw ho _ hk answered unstored stored
  have hlost : writeLost s w = unstored := writeLost_eq ho
  have hended : writeEnded s w = stored := writeEnded_eq ho hk
  have hexec : exec .writeStored s = .next (settle (writeStored s w)) := by
    rw [show exec .writeStored s = execWriteStored s from rfl, execWriteStored, event_running hr]
    simp only [hw]
  have hkept : imageCompleted stored = stored → exec .writeStored s = .next { stored with store := { stored.store with
      memoryFailing := s.store.memoryFailing && !s.imageValid } } := fun hc => by
    rw [hexec, writeStored_eq, hended, hc, settle_nil (by exact ha)]
    rfl
  refine ⟨?unstored, ?timeout, fun hv => ?valid, fun hv hnot => ?waits, fun hi hall => ?completes⟩
  case unstored =>
    rw [show exec .writeUnstored s = execWriteUnstored s from rfl, execWriteUnstored, quiet_running hr]
    simp only [hw, hlost]
  case timeout =>
    rw [show exec .writeTimeout s = execWriteTimeout s from rfl, execWriteTimeout, quiet_running hr]
    simp only [hw, hlost]
  case valid =>
    have himage : stored.store.image = .valid := imageValid_iff.mp hv
    rw [hkept (by simp [imageCompleted, himage])]
    simp [hv]
  case waits =>
    have hc : imageCompleted stored = stored := by
      rw [imageCompleted, if_neg]
      simp only [Bool.and_eq_true, decide_eq_true_eq, Tbl.items_all_iff, not_and, id]
      intro himage hevery
      rcases hnot with hreading | ⟨j, hj⟩
      · exact absurd (hreading.symm.trans himage) (by decide)
      · exact absurd ((hevery j).symm.trans hj) (by decide)
    rw [hkept hc, hv, Bool.not_false, Bool.and_true]
  case completes =>
    have hc : imageCompleted stored = imageBecomesValid stored := by
      rw [imageCompleted, if_pos]
      simp only [Bool.and_eq_true, decide_eq_true_eq, Tbl.items_all_iff]
      exact ⟨hi, hall⟩
    obtain ⟨u, hu⟩ : ∃ u, u = imageBecomesValid stored := ⟨_, rfl⟩
    obtain ⟨hstore, hrated, hslots⟩ := imageTaken_facts (t := u) (by rw [hu]; exact imageBecomesValid_outer stored)
    have hvalid : u.store.image = .valid := by rw [hstore]
    obtain ⟨x, hx⟩ : ∃ x, x = (u.store.memoryFailing && !u.imageValid) := ⟨_, rfl⟩
    rw [hexec, writeStored_eq, hended, hc, ← hu, ← hx]
    have houter := settle_outer { u with store := { u.store with memoryFailing := x } }
    generalize settle { u with store := { u.store with memoryFailing := x } } = t at houter
    refine ⟨t, rfl, ?_, fun i => ?_, fun id => ?_⟩
    · rw [imageValid_iff, store_of_outer houter]
      exact hvalid
    · exact rated_of_outer houter hrated i
    · rw [isSome_of_outer houter]
      exact hslots id

end Sys2Proof.Params
end

section
/-!
SET_PARAM (R181, R182): the rows in which a request is refused, the write it begins, and what each owner does with a new value.
-/

namespace Sys2Proof.Machine
open Sys2Proof Sys2Proof.Safety

section
variable {s t : State}

/-! ### What no owner touches -/

/-- The store, the stations and the FIFO, the holds and the sensing are as before. -/
def ParamKept (s t : State) : Prop := t.store = s.store ∧ t.link.stations = s.link.stations ∧ t.link.rx = s.link.rx ∧
  t.holds = s.holds ∧ t.junctions = s.junctions

namespace ParamKept

theorem of_outer (h : t.outer = s.outer) : ParamKept s t :=
  ⟨store_of_outer h, stations_of_outer h, rx_of_outer h, holds_of_outer h, junctions_of_outer h⟩

theorem of_flowOnly (h : FlowOnly s t) : ParamKept s t :=
  ⟨h.store, congrArg Link.stations h.link, congrArg Link.rx h.link, h.holds, h.junctions⟩

theorem trans {u : State} (h : ParamKept s t) (g : ParamKept t u) : ParamKept s u := by
  obtain ⟨hs, hst, hrx, hh, hj⟩ := h
  obtain ⟨gs, gst, grx, gh, gj⟩ := g
  exact ⟨gs.trans hs, gst.trans hst, grx.trans hrx, gh.trans hh, gj.trans hj⟩

theorem refl (s : State) : ParamKept s s := of_outer rfl

theorem onHatch {f : Hatch → State → State} (hf : ∀ h u, ParamKept u (f h u)) (idx : Nat) (s : State) :
    ParamKept s (onHatch idx f s) := by
  simp only [Machine.onHatch]
  split
  · exact hf _ s
  · exact refl s

theorem rebuildSlot (s : State) (id : CleatId) : ParamKept s (rebuildSlot s id) := by
  have hretain : ParamKept s (retain (s.setSlot id (builtSlot s.store.copy id)) (.cleat id)) := by
    rw [retain_eq]
    exact ⟨rfl, rfl, rfl, rfl, rfl⟩
  refine hretain.trans (of_outer ?_)
  rw [Machine.rebuildSlot, takeUp_outer, rejudge_outer]

theorem bandChanged (b s : State) : ParamKept s (bandChanged b s) := by
  refine of_outer ?_
  rw [Machine.bandChanged, foldr_outer, rejudgeAll_outer]
  intro h u
  split
  · exact push_outer u _
  · rfl

/-- No owner writes them (R182). -/
theorem ownerTakes (b : State) (item idx : Nat) (s : State) : ParamKept s (ownerTakes b item idx s) := by
  simp only [Machine.ownerTakes]
  split
  case h_1 | h_2 => exact onHatch (fun h u => of_outer (rejudge_outer u h)) idx s
  case h_3 => exact onHatch (f := fun h u => modeChanged u h) (fun h u => ⟨rfl, rfl, rfl, rfl, rfl⟩) idx s
  case h_4 | h_5 | h_6 =>
    split
    · exact rebuildSlot s _
    · exact refl s
  case h_7 =>
    split
    · rw [setRating_eq]
      exact of_flowOnly (FlowOnly.trans (flowOnly_setPump s _ _) (ratingsTaken_flowOnly _ _))
    · exact refl s
  case h_8 | h_9 | h_10 => exact of_flowOnly (syncAvailable_flowOnly s)
  case h_11 => exact bandChanged b s
  case h_12 => exact of_flowOnly (idleChanged_flowOnly _ s)
  case h_13 => exact ⟨rfl, rfl, rfl, rfl, rfl⟩
  case h_14 => exact refl s

end ParamKept

/-! ### The owners -/

/-- A value that no owner acts on at once (R182). -/
theorem ownerTakes_later {b : State} {item : Nat} (idx : Nat)
    (hi : item ∈ [2, 8, 9, 10, 15, 16, 17, 18, 19, 20, 21, 23, 24, 25, 26, 27, 28]) : ownerTakes b item idx s = s := by
  fin_cases hi <;> rfl

/-- A record built from the layout (R2). -/
theorem builtSlot_eq (p : Image) (id : CleatId) : builtSlot p id = rebuilt p id := by
  simp only [builtSlot, rebuilt]
  cases p.isManual id <;> cases p.hasSensor id <;> rfl

theorem wanted_of_reclampSet {h : Hatch} (he : (reclampSet s h).isEmpty = true) {id : CleatId} {r : CleatRec} (hid : cleatHatch id = h)
    (hr : s.slot id = some r) : r.wanted = .no := by
  by_contra hw
  have hany : ((hatchRecords s h).any fun r => r.2.wanted != .no && decide (cleatGroup r.1 = cleatGroup id)) = true :=
    (any_hatchRecords _).mpr ⟨id, r, hid, hr, by simp [hw]⟩
  simp only [Groups.isEmpty, reclampSet, Bool.and_eq_true, Bool.not_eq_true'] at he
  obtain ⟨⟨hport, hstbd⟩, hcross⟩ := he
  cases hg : cleatGroup id <;> rw [hg] at hany <;> simp_all

theorem settle_rebuildSlot {id : CleatId} (ha : s.agenda = []) (hw : NothingWaits s (cleatHatch id)) : settle (rebuildSlot s id) =
    judged (retain (s.setSlot id (rebuilt s.store.copy id)) (.cleat id)) (cleatHatch id) := by
  obtain ⟨u, hu⟩ : ∃ u, u = retain (s.setSlot id (rebuilt s.store.copy id)) (.cleat id) := ⟨_, rfl⟩
  have hctx : u.ctx (cleatHatch id) = s.ctx (cleatHatch id) := by rw [hu, retain_eq]; rfl
  have hslot : ∀ j, u.slot j = (s.setSlot id (rebuilt s.store.copy id)).slot j := fun j => by rw [hu, retain_eq]; rfl
  have hmark : (u.ctx (cleatHatch id)).mark = false := by rw [hctx]; exact hw.1
  have hrebuild : rebuildSlot s id = takeUp (judged u (cleatHatch id)) (cleatHatch id) := by
    rw [rebuildSlot, builtSlot_eq, ← hu, rejudge_unmarked hmark]
  have hnothing : NothingWaits (judged u (cleatHatch id)) (cleatHatch id) := by
    refine ⟨hmark, reclampSet_empty fun j r hj hr => ?_⟩
    rw [judged_slot, hslot, State.slot_setSlot_eq] at hr
    split at hr
    · simp only [rebuilt] at hr
      split at hr
      · obtain rfl := Option.some.inj hr
        rfl
      · cases hr
    · exact wanted_of_reclampSet hw.2 hj hr
  have htakes := Takes.takeUps_nothing (s := judged u (cleatHatch id)) (hs := [cleatHatch id]) fun g hg => by
    rw [List.mem_singleton.mp hg]
    exact hnothing
  rw [hrebuild, ← hu]
  refine htakes.settled (by simp) ?_
  rw [judged_agenda, hu, retain_agenda]
  exact ha

theorem syncAvailable_noEntry (hn : NoEntry s) : FlowTaken s (syncAvailable s) ∧
    (syncAvailable s).supply = { s.supply with available := availableNow s } := by
  simp only [syncAvailable]
  split
  · rename_i h
    exact ⟨⟨rfl, rfl, hn, rfl, h.symm⟩, by rw [h]⟩
  · rw [allocate_noEntry (s := { s with supply := { s.supply with available := availableNow s } }) hn]
    exact ⟨⟨rfl, rfl, hn, rfl, rfl⟩, rfl⟩

theorem ratingsTaken_noEntry (b : State) (hn : NoEntry s) : FlowTaken s (ratingsTaken b s) := by
  simp only [ratingsTaken]
  split
  · exact (syncAvailable_noEntry hn).1
  · exact pumpsChanged_noEntry hn

/-- The verdicts of unmarked hatches are decided afresh, and nothing else changes. -/
theorem rejudgeAll_unmarked (hm : ∀ h, (s.ctx h).mark = false) :
    ∃ v r, rejudgeAll s = { s with table := { s.table with verdict := v, reason := r } } := by
  have hfold : ∀ hs : List Hatch, ∃ v r, hs.foldr (fun h s => rejudge s h) s = { s with table := { s.table with verdict := v, reason := r } } := by
    intro hs
    induction hs with
    | nil => exact ⟨_, _, rfl⟩
    | cons h hs ih =>
      obtain ⟨v, r, heq⟩ := ih
      rw [List.foldr_cons, heq, rejudge_unmarked (by exact hm h)]
      exact ⟨_, _, rfl⟩
  exact hfold allHatches

theorem rejudgeAll_current (s : State) : VerdictsCurrent (rejudgeAll s) :=
  verdictsBut_empty.mp (verdictsBut_worksKeep.onRejudgeAll (S := Set.univ) fun h hh => absurd (Set.mem_univ h) hh)

/-- A new stop band with no hatch marked hands on nothing that is taken up. -/
theorem settle_bandChanged (b : State) (ha : s.agenda = []) (hm : ∀ h, (s.ctx h).mark = false) :
    settle (bandChanged b s) = rejudgeAll s := by
  obtain ⟨v, r, heq⟩ := rejudgeAll_unmarked hm
  obtain ⟨u, hu⟩ : ∃ u, u = rejudgeAll s := ⟨_, rfl⟩
  have hfold : ∀ hs : List Hatch, ∃ gs : List Hatch, gs.length ≤ hs.length ∧
      hs.foldr (fun h s => if (s.ctx h).state = .closed then s.push [.squallTry h] else s) u = u.push (gs.map .squallTry) := by
    intro hs
    induction hs with
    | nil => exact ⟨[], le_rfl, rfl⟩
    | cons h hs ih =>
      obtain ⟨gs, hl, hgs⟩ := ih
      rw [List.foldr_cons, hgs]
      split
      · exact ⟨h :: gs, Nat.succ_le_succ hl, rfl⟩
      · exact ⟨gs, Nat.le_succ_of_le hl, rfl⟩
  obtain ⟨gs, hl, hgs⟩ := hfold (bandsMoved b s)
  have hlen : gs.length ≤ 9 := hl.trans (List.length_filter_le _ _)
  have hinert := Takes.inert (s := u) (gs.map .squallTry) fun t ht us => by
    obtain ⟨h, -, rfl⟩ := List.mem_map.mp ht
    exact squallTry_unmarked (by rw [hu, heq]; exact hm h)
  rw [bandChanged, ← hu, hgs]
  refine hinert.settled (by simp; omega) ?_
  rw [hu, heq]
  exact ha

theorem withItem_rated (p : Image) (k : PumpId) (v : Int) : (p.withItem 11 (k.val + 1) v).rated k = v.toNat := by
  simp [Image.withItem, Image.rated]

theorem withItem_idleTime (p : Image) (idx : Nat) (v : Int) : (p.withItem 29 idx v).idleTime = v.toNat := by
  simp [Image.withItem, Image.idleTime]

/-! ### The rows of R181 -/

theorem Tbl.items_any_iff {n : Nat} {α : Type} {t : Tbl n α} {p : α → Bool} : t.items.any p = false ↔ ∀ i, p (t.get i) = false := by
  rw [← Bool.not_eq_true', List.not_any_eq_all_not, Tbl.items_all_iff]
  simp only [Bool.not_eq_true']

theorem paramBusy_iff {item idx : Nat} : paramBusy s item idx = false ↔ (s.store.unsaved = none ∨ s.store.unsaved = some (item, idx)) ∧
    (∀ h, (s.ctx h).state.isMoving = false) ∧ s.drive.jog = none ∧ NoEntry s := by
  have hmoving : (s.hatches.items.any fun c => c.state.isMoving) = false ↔ ∀ h, (s.ctx h).state.isMoving = false :=
    Tbl.items_any_iff
  have hentry : (!s.arbiter.isEmpty) = false ↔ NoEntry s := by simp [Arbiter.isEmpty, NoEntry]
  have hjog : s.drive.jog.isSome = false ↔ s.drive.jog = none := by simp
  cases hu : s.store.unsaved <;>
    simp only [paramBusy, hu, Bool.or_eq_false_iff, hmoving, hentry, hjog, bne_eq_false_iff_eq, Option.some.injEq, reduceCtorEq, false_or,
      true_or, true_and, and_assoc]

end

end Sys2Proof.Machine

namespace Sys2Proof.Params
open Sys2Proof Sys2Proof.Machine Sys2Proof.Safety

/-- Settles O55: the rows of R181 in order, then the owner of each item. -/
theorem paramTakenForWriting : Obligations.ParamTakenForWriting := by
  intro s f key ho hexists item v copy kept free
  have hexec : exec (.setParam key) s = .next (settle (paramRequest key f (popped s))) :=
    event_taken (isIt := ofKind kindSetParam) ho ho.ofKind
  have hrequest : paramRequest key f (popped s) =
      if !(roleOf f.station = .service && key) then reply kept f .refusedAuthority
      else if paramBusy kept item (f.word 3) then reply kept f .busy
      else if !itemValueOk item v then reply kept f .badValue
      else if !copy.sound then reply kept f .badValue
      else beginWrite kept f := by
    simp only [paramRequest]
    rw [if_neg (by simp [paramItem, paramIndex, hexists])]
    rfl
  have hreply : ∀ c, settle (reply kept f c) = reply kept f c := fun c => settle_nil ho.agenda
  have hbusy : paramBusy kept item (f.word 3) = false ↔ free := paramBusy_iff
  refine ⟨fun hno => ?authority, fun hrole hkey hnot => ?busy, fun hrole hkey hfree hbad => ?bad, fun hrole hkey hfree hok hsound => ?taken⟩
  case authority =>
    rw [hexec, hrequest, if_pos, hreply]
    rcases hno with hno | hno <;> simp [hno]
  case busy =>
    rw [hexec, hrequest, if_neg (by simp [hrole, hkey]), if_pos, hreply]
    exact Bool.not_eq_false _ ▸ fun h => hnot (hbusy.mp h)
  case bad =>
    rw [hexec, hrequest, if_neg (by simp [hrole, hkey]), if_neg (by simp [hbusy.mpr hfree])]
    by_cases hv : itemValueOk item v = false
    · rw [if_pos (by simp [hv]), hreply]
    · have hc : copy.sound = false := hbad.resolve_left hv
      rw [if_neg (by simpa using hv), if_pos (by simp [hc]), hreply]
  case taken =>
    intro taken
    have ⟨_, _, _, hn⟩ := hfree
    have hn' : NoEntry taken := hn
    have hgo : exec (.setParam key) s = .next (settle (if s.imageValid && s.store.copy.item item (f.word 3) != v then
        ownerTakes kept item (f.word 3) taken else taken)) := by
      rw [hexec, hrequest, if_neg (by simp [hrole, hkey]), if_neg (by simp [hbusy.mpr hfree]), if_neg (by rw [show itemValueOk item v = true from hok]; decide),
        if_neg (by rw [hsound]; decide), CommandsKeep.beginWrite_eq]
      rfl
    have hsettled : settle taken = taken := settle_nil ho.agenda
    refine ⟨?kept, fun hlater => ?later, fun hv hne => ?owner⟩
    case kept =>
      refine ⟨_, hgo, ?_⟩
      have hkept := ParamKept.ownerTakes kept item (f.word 3) taken
      split
      · exact hkept.trans (.of_outer (settle_outer _))
      · exact ParamKept.of_outer (settle_outer _)
    case later =>
      rw [hgo]
      split
      · rename_i hc
        simp only [Bool.and_eq_true, bne_iff_ne] at hc
        rcases hlater with hv | hsame | hi
        · exact absurd (hc.1.symm.trans hv) (by decide)
        · exact absurd hsame hc.2
        · rw [ownerTakes_later _ hi, hsettled]
      · rw [hsettled]
    case owner =>
      have howner : exec (.setParam key) s = .next (settle (ownerTakes kept item (f.word 3) taken)) := by
        rw [hgo, if_pos (by rw [hv, Bool.true_and]; exact bne_iff_ne.mpr hne)]
      refine ⟨fun h hidx => ⟨fun hi hm => ?verdict, fun hi => ?clearing⟩, fun hi id hidx hw => ?layout, fun hi k hidx => ?rating,
        fun hi => ?flow, fun hi hm => ?band, fun hi => ?idle, fun hi => ?limit⟩
      case verdict =>
        have htakes : ownerTakes kept item (f.word 3) taken = rejudge taken h := by
          rcases hi with hi | hi <;> rw [hi, hidx] <;> simp only [ownerTakes, onHatch, hatchOf_succ]
        rw [howner, htakes, rejudge_unmarked (by exact hm), settle_nil (s := judged taken h) ho.agenda]
      case clearing =>
        have htakes : ownerTakes kept item (f.word 3) taken = modeChanged taken h := by
          rw [hi, hidx]
          simp only [ownerTakes, onHatch, hatchOf_succ]
        rw [howner, htakes, settle_nil (by exact ho.agenda)]
        rfl
      case layout =>
        have htakes : ownerTakes kept item (f.word 3) taken = rebuildSlot taken id := by
          rcases hi with hi | hi | hi <;> rw [hi, hidx] <;> simp only [ownerTakes, cleatOf_val]
        rw [howner, htakes, settle_rebuildSlot (s := taken) ho.agenda hw]
      case rating =>
        have htakes : ownerTakes kept item (f.word 3) taken = ratingsTaken kept (taken.setPump k ((s.pump k).rerated (copy.rated k))) := by
          rw [hi, hidx]
          simp only [ownerTakes, pumpOf_succ, setRating_eq]
          rfl
        have hcopy : copy.rated k = v.toNat := by
          rw [← withItem_rated s.store.copy k v, ← hidx, ← hi]
        have hpos : 0 ≤ v := by
          have hrange : itemValueOk item v = true := hok
          rw [hi] at hrange
          simp only [itemValueOk, itemRange, Bool.and_eq_true, decide_eq_true_eq] at hrange
          exact hrange.1.1
        have hzero : v.toNat = 0 ↔ v = 0 := by omega
        intro p stopped q
        have hq : p.rerated v.toNat = q := by
          by_cases hz : v = 0
          · cases hst : p.state <;> simp [Pump.rerated, Pump.stopped, q, stopped, hst, hz]
          · have hn0 : v.toNat ≠ 0 := fun h => hz (hzero.mp h)
            cases hst : p.state <;> simp [Pump.rerated, q, hst, hz, hn0]
        have hflow : FlowTaken (taken.setPump k q) (ratingsTaken kept (taken.setPump k q)) := ratingsTaken_noEntry kept hn'
        refine ⟨ratingsTaken kept (taken.setPump k q), ?_, (hflow.pump k).trans (State.pump_setPump taken k q),
          fun i hne => (hflow.pump i).trans (State.pump_setPump_ne taken q hne.symm), hflow.noEntry, hflow.only, hflow.available⟩
        rw [howner, htakes, hcopy, hq, settle_nil (hflow.agenda.trans ho.agenda)]
      case flow =>
        have htakes : ownerTakes kept item (f.word 3) taken = syncAvailable taken := by
          rcases hi with hi | hi | hi <;> rw [hi] <;> simp only [ownerTakes]
        obtain ⟨hflow, hsupply⟩ := syncAvailable_noEntry hn'
        refine ⟨syncAvailable taken, ?_, hsupply, hflow.noEntry, hflow.only⟩
        rw [howner, htakes, settle_nil (hflow.agenda.trans ho.agenda)]
      case band =>
        have htakes : ownerTakes kept item (f.word 3) taken = bandChanged kept taken := by
          rw [hi]
          simp only [ownerTakes]
        obtain ⟨x, y, heq⟩ := rejudgeAll_unmarked (s := taken) hm
        refine ⟨rejudgeAll taken, ?_, rejudgeAll_current taken, ?_⟩
        · rw [howner, htakes, settle_bandChanged (s := taken) kept ho.agenda hm]
        · rw [heq]
          rfl
      case idle =>
        have htakes : ownerTakes kept item (f.word 3) taken = idleChanged s.params.idleTime taken := by
          rw [hi]
          simp only [ownerTakes]
          rfl
        have htime : taken.params.idleTime = v.toNat := by
          rw [show taken.params = copy from if_pos hv, ← withItem_idleTime s.store.copy (f.word 3) v, ← hi]
        have htimer : taken.arbiter.idleTimer = s.arbiter.idleTimer := rfl
        refine ⟨fun hold hnew => ?counts, fun hold => ?takes, fun hold hnew => ?expires⟩
        case counts =>
          rw [howner, htakes, idleChanged, if_pos, hsettled]
          rw [htime, htimer]
          exact ⟨hold, by omega⟩
        case takes =>
          rw [howner, htakes, idleChanged, if_neg, if_neg, htime, settle_nil (by exact ho.agenda)]
          · rfl
          · exact Nat.not_lt.mpr hold
          · exact fun h => absurd h.1 (Nat.not_lt.mpr hold)
        case expires =>
          obtain ⟨honly, hentry, hidle, hpump⟩ := idleExpires_noEntry hn'
          refine ⟨idleExpires taken, ?_, hidle.trans htime, hentry, honly, fun k => hpump k⟩
          rw [howner, htakes, idleChanged, if_neg, if_pos (by exact hold), settle_nil]
          · rw [honly]
            exact ho.agenda
          · rw [htime, htimer]
            intro ⟨_, h⟩
            omega
      case limit =>
        have htakes : ownerTakes kept item (f.word 3) taken = syncPressure taken := by
          rw [hi]
          simp only [ownerTakes]
        rw [howner, htakes, settle_nil (by exact ho.agenda)]
        rfl

end Sys2Proof.Params
end

section
/-!
SCAN (R131 to R133): missed scans, and the loss of a junction line.
-/

namespace Sys2Proof.Machine
open Sys2Proof Sys2Proof.Safety

section
variable {s : State} {h : Hatch} {j : Junction}

theorem junction_setJunction (s : State) (h : Hatch) (j : Junction) : (s.setJunction h j).junctions.get h = j := by
  simp [State.setJunction]

theorem junction_setJunction_ne (s : State) {h g : Hatch} (j : Junction) (hg : g ≠ h) :
    (s.setJunction h j).junctions.get g = s.junctions.get g := by
  simp [State.setJunction, hg.symm]

/-! ### The part at the loss of a line (R133) -/

/-- The junction of a line that is lost. -/
def Junction.lineLost (j : Junction) : Junction := { j with state := .lost, misses := 3, panels := j.panels.map PanelSense.lost }

/-- The part with the line lost and its records UNVERIFIED, before the hatch is judged afresh. -/
def unsensed (s : State) (h : Hatch) (j : Junction) : State := tableLost (s.setJunction h j.lineLost) h

theorem unsensed_junction (s : State) (h : Hatch) (j : Junction) : (unsensed s h j).junctions.get h = j.lineLost :=
  junction_setJunction s h _

theorem unsensed_slot {id : CleatId} {r : CleatRec} (hid : cleatHatch id = h) (hr : (unsensed s h j).slot id = some r)
    (hsensor : r.sensor = true) : r.verdict = .unverified := by
  simp only [unsensed, tableLost, State.slot, Tbl.get_build, hid, if_true, Option.map_eq_some_iff] at hr
  obtain ⟨r', -, rfl⟩ := hr
  split at hsensor
  · rename_i h'
    rw [if_pos h']
  · rename_i h'
    exact absurd hsensor h'

theorem judge_lost (hl : (s.junctions.get h).state = .lost) : judge s h = (.unverified, none) := by
  simp [judge, judgedUnverified, hl]

theorem alarm_of_lost (hl : (s.junctions.get h).state = .lost) : s.alarm = true := by
  have hany : (s.junctions.items.any fun j => j.state = .lost) = true := by
    by_contra hnone
    have := Tbl.items_any_iff.mp (Bool.eq_false_iff.mpr hnone) h
    simp [hl] at this
  simp [State.alarm, hany]

/-- The loss of a line, said by its hatch: judged UNVERIFIED, and in FAULT where it moves (R70, R133). -/
theorem lineLost_eq (s : State) (h : Hatch) (j : Junction) : lineLost s h j =
    jogEndInvalid (jogEndInvalid (if (s.ctx h).state.isMoving then faultHatch (judged (unsensed s h j) h) h .junction
      else judged (unsensed s h j) h) h .port) h .stbd := by
  have hjudged : rejudge (unsensed s h j) h = judged (unsensed s h j) h :=
    rejudge_unsecured (by rw [judge_lost (by rw [unsensed_junction]; rfl)]; rfl)
  simp only [lineLost]
  rw [show tableLost (s.setJunction h { j with state := .lost, misses := 3, panels := j.panels.map PanelSense.lost }) h = unsensed s h j
    from rfl, hjudged]
  rfl

theorem lineLost_outer (s : State) (h : Hatch) (j : Junction) : (lineLost s h j).outer = (unsensed s h j).outer := by
  rw [lineLost_eq, jogEndInvalid_outer, jogEndInvalid_outer]
  split
  · rw [faultHatch_outer]
    rfl
  · rfl

/-- A lost line leaves its hatch UNVERIFIED, whatever is handed on. -/
theorem settle_lineLost_verdict (s : State) (h : Hatch) (j : Junction) : (settle (lineLost s h j)).table.verdict.get h = .unverified := by
  have k := verdictsBut_worksKeep.toHandoffsKeep
  have hjudged : VerdictsBut {h}ᶜ (judged (unsensed s h j) h) := by
    have := verdictsBut_judged (S := Set.univ) (s := unsensed s h j) h fun g hg => absurd (Set.mem_univ g) hg
    rwa [← Set.compl_eq_univ_sdiff] at this
  have hlost : VerdictsBut {h}ᶜ (lineLost s h j) := by
    rw [lineLost_eq]
    refine k.onJogEndInvalid h _ (k.onJogEndInvalid h _ ?_)
    split
    · exact k.onFaultHatch _ _ hjudged
    · exact hjudged
  have hcurrent := k.onSettle hlost h (by simp)
  rw [hcurrent.1, judge_lost]
  rw [junctions_of_outer ((settle_outer _).trans (lineLost_outer s h j)), unsensed_junction]
  rfl

/-- A hatch alone in the Arbiter, with no jog, takes FAULT with cause JUNCTION where it moves. -/
theorem settle_lineLost_ctx (ha : s.agenda = []) (ho : OnlyEntryOf s h) (hj : s.drive.jog = none) :
    ((settle (lineLost s h j)).ctx h).state = (if (s.ctx h).state.isMoving then .fault else (s.ctx h).state) ∧
      ((s.ctx h).state.isMoving = true → ((settle (lineLost s h j)).ctx h).lastFault = some .junction) := by
  obtain ⟨w, hw⟩ : ∃ w, w = judged (unsensed s h j) h := ⟨_, rfl⟩
  have hctx : w.ctx h = s.ctx h := by rw [hw]; rfl
  have hidle : ∀ u : State, u.drive.jog = none → jogEndInvalid (jogEndInvalid u h .port) h .stbd = u := fun u hu => by
    have hone : ∀ p, jogEndInvalid u h p = u := fun p => by simp only [jogEndInvalid, hu]
    rw [hone, hone]
  rw [lineLost_eq, ← hw]
  by_cases hm : (s.ctx h).state.isMoving = true
  · have hf : (w.ctx h).state ≠ .fault := fun h => by rw [hctx] at h; rw [h] at hm; cases hm
    simp only [hm, if_true, forall_const]
    cases hs : (w.ctx h).step with
    | none =>
      rw [faultHatch_idle hs hf, hidle _ (by rw [faulted_drive, hw]; exact hj), settle_nil (by rw [faulted_agenda, hw]; exact ha), faulted_ctx]
      exact ⟨rfl, rfl⟩
    | some st =>
      obtain ⟨a, htakes, -⟩ := takes_leave (s := faulted (stepLost w h) h .junction) (h := h) []
        (by rw [OnlyEntryOf, faulted_arbiter, stepLost_arbiter, hw]; exact ho)
      rw [faultHatch_step hs hf, hidle _ (by
        show (faulted (stepLost w h) h .junction).drive.jog = none
        rw [faulted_drive, stepLost_drive, dropStep_jog, hw]
        exact hj), htakes.settled (by omega) (by
        rw [State.push_nil, withArbiter_agenda, faulted_agenda, stepLost_agenda, hw]
        exact ha), State.push_nil, withArbiter_ctx, faulted_ctx]
      exact ⟨rfl, rfl⟩
  · simp only [hm, if_false, false_implies, and_true, Bool.false_eq_true]
    rw [hidle _ (by rw [hw]; exact hj), settle_nil (by rw [hw]; exact ha), hctx]

end

end Sys2Proof.Machine

namespace Sys2Proof.Sensors
open Sys2Proof Sys2Proof.Machine Sys2Proof.Safety

/-- Settles O58: the rows of R131 to R133, the third missed scan with what it hands on. -/
theorem missedScansLoseTheLine : Obligations.MissedScansLoseTheLine := by
  intro s h ⟨hr, ha⟩ j cut missed
  have hexec : exec (.scan h) s = .next (settle (if (s.junctions.get h).goodFrame then s.setJunction h j else missedScan s h j)) := by
    rw [show exec (.scan h) s = execScan h s from rfl, execScan, event_running hr]
    rfl
  have hquiet : ∀ x : Junction, settle (s.setJunction h x) = s.setJunction h x := fun x => settle_nil ha
  refine ⟨fun hg => by rw [hexec, if_pos hg, hquiet], fun hg => ⟨fun hst => ?online, fun hst hm => ?missing, fun hst => ?lost, fun hst hm => ?loses⟩⟩
  all_goals rw [hexec, if_neg (by simp [hg])]
  case online =>
    simp only [missedScan, hst, hquiet]
    rfl
  case missing =>
    simp only [missedScan, hst, if_neg (Nat.not_le.mpr hm), hquiet]
    rfl
  case lost =>
    simp only [missedScan, hst, hquiet]
    rfl
  case loses =>
    obtain ⟨x, hx⟩ : ∃ x : Junction, x = { j with missedScans := min 65535 (j.missedScans + 1) } := ⟨_, rfl⟩
    have hlost : missedScan s h j = lineLost s h x := by
      simp only [missedScan, hst, if_pos hm, hx]
      rfl
    obtain ⟨t, ht⟩ : ∃ t, t = settle (lineLost s h x) := ⟨_, rfl⟩
    have houter : t.outer = (unsensed s h x).outer := by rw [ht, settle_outer, lineLost_outer]
    have hjunctions : t.junctions = (unsensed s h x).junctions := junctions_of_outer houter
    have hline : t.junctions.get h = x.lineLost := by rw [hjunctions, unsensed_junction]
    refine ⟨t, by rw [hlost, ht], by rw [hline]; rfl, by rw [hline]; rfl, by rw [hline, hx]; rfl, by rw [hline, hx]; rfl,
      by rw [hline, hx]; rfl,
      fun p => ?panels, fun id r hid hslot hsensor => ?slots, fun g hg => ?others, (holds_of_outer houter).trans rfl,
      (stops_of_outer houter).trans rfl, alarm_of_lost (h := h) (by rw [hline]; rfl), fun ho hnojog => ?alone⟩
    case panels =>
      rw [State.panel, hline]
      cases p <;> exact ⟨rfl, rfl, rfl, rfl, rfl, rfl⟩
    case slots =>
      have hsteady := steady_of_outer houter id
      rw [hslot, Option.map_some] at hsteady
      obtain ⟨r', hr', heq⟩ := Option.map_eq_some_iff.mp hsteady.symm
      have hverdict : r'.steady.verdict = r.steady.verdict := congrArg CleatRec.verdict heq
      have hsame : r'.steady.sensor = r.steady.sensor := congrArg CleatRec.sensor heq
      exact hverdict.symm.trans (show r'.verdict = .unverified from unsensed_slot hid hr' (hsame.trans hsensor))
    case others =>
      rw [hjunctions]
      exact junction_setJunction_ne s _ hg
    case alone =>
      rw [ht]
      obtain ⟨hstate, hfault⟩ := settle_lineLost_ctx (j := x) ha ho hnojog
      exact ⟨settle_lineLost_verdict s h x, hstate, hfault⟩

end Sys2Proof.Sensors
end

section
/-!
IMAGE_READ_END with a good image (R179, R180): the records of the table and their kept fields (R2, R23), and the derivation of the
UNKNOWN hatches (R50, R51).
-/

namespace Sys2Proof.Machine
open Sys2Proof Sys2Proof.Safety

section
variable {s t u : State}

/-! ### What an allocation hands on -/

/-- No verdict change of a cleat waits. -/
def InnerAgenda (s : State) : Prop := s.agenda.all Task.isInner = true

theorem isInner_of_ofFlow {t : Task} (h : Task.ofFlow t = true) : t.isInner = true := by
  cases t <;> first | rfl | cases h

theorem innerAgenda_allocate (hs : InnerAgenda s) : InnerAgenda (allocate s) := by
  rw [InnerAgenda, allocate_of_scan (b := (allocScan s).1) (stopped := (allocScan s).2) rfl]
  have hagenda : (syncReduction (withStart (afterScan s (allocScan s).1)
      (startDecision (afterScan s (allocScan s).1) (allocScan s).2))).agenda = s.agenda := by
    cases startDecision (afterScan s (allocScan s).1) (allocScan s).2 <;> rfl
  simp only [State.push, hagenda, List.all_append, Bool.and_eq_true]
  refine ⟨⟨List.all_eq_true.mpr fun t ht => isInner_of_ofFlow (outcomeTasks_ofFlow _ _ _ t ht), ?_⟩, hs⟩
  split <;> rfl

theorem innerAgenda_syncAvailable (hs : InnerAgenda s) : InnerAgenda (syncAvailable s) := by
  simp only [syncAvailable]
  split
  · exact hs
  · exact innerAgenda_allocate hs

theorem innerAgenda_pumpsChanged (hs : InnerAgenda s) : InnerAgenda (pumpsChanged s) := by
  obtain ⟨v, heq, -⟩ := pumpsChanged_eq s
  rw [heq]
  exact innerAgenda_allocate hs

theorem innerAgenda_ratingsTaken (b : State) (hs : InnerAgenda s) : InnerAgenda (ratingsTaken b s) := by
  simp only [ratingsTaken]
  split
  · exact innerAgenda_syncAvailable hs
  · exact innerAgenda_pumpsChanged hs

theorem innerAgenda_idleChanged (old : Nat) (hs : InnerAgenda s) : InnerAgenda (idleChanged old s) := by
  have hexpires : InnerAgenda (idleExpires s) := by
    obtain ⟨honly, -⟩ := stopRunning_spec { s with arbiter := { s.arbiter with idleTimer := s.params.idleTime } }
    have hstopped : InnerAgenda (stopRunning { s with arbiter := { s.arbiter with idleTimer := s.params.idleTime } }) := by
      rw [honly]
      exact hs
    simp only [idleExpires]
    split
    · exact hstopped
    · exact innerAgenda_pumpsChanged hstopped
  simp only [idleChanged]
  repeat' split
  · exact hs
  · exact hexpires
  · exact hs

/-! ### Records that no reclamp has had to do with -/

/-- The records stand as given, and no verdict change of a cleat waits. -/
def SlotsStand (x : CleatId → Option CleatRec) (s : State) : Prop := (∀ id, s.slot id = x id) ∧ InnerAgenda s

theorem slotsStand_flow {x : CleatId → Option CleatRec} (hf : FlowOnly s t) (ha : InnerAgenda t) (h : SlotsStand x s) : SlotsStand x t :=
  ⟨fun id => by rw [State.slot, hf.table]; exact h.1 id, ha⟩

/-- What is handed on changes no record that no reclamp has had to do with (R15). -/
theorem slotsStand_innerKeep {x : CleatId → Option CleatRec} (hx : ∀ id r, x id = some r → r.Untouched) :
    InnerKeep fun _ => SlotsStand x where
  mono _ h := h
  onEvents ts hts h := ⟨h.1, by
    rw [InnerAgenda, State.push, List.all_append, hts]
    exact h.2⟩
  onCtx _ h := h
  onState _ h := h
  onJudged _ h := h
  onReclampEvent {S s g f} _ _ hf h := ⟨fun id => by
    rw [slot_reclampEvent, h.1]
    split
    · cases hid : x id with
      | none => rfl
      | some r => simp [hf r (hx id r hid)]
    · rfl, h.2⟩
  onChannel _ h := h
  onChannels _ h := h
  onJog _ h := h
  onAllocate h := slotsStand_flow (allocate_flowOnly _) (innerAgenda_allocate h.2) h
  onQueueStep g name c h := slotsStand_flow (queueEntry_flowOnly _ _ _ _ _ _) (by
    simp only [queueEntry]
    split
    · exact h.2
    · exact h.2) h
  onTakeLeave g h := slotsStand_flow (takeLeave_flowOnly _ _) (by
    simp only [takeLeave]
    split
    · exact innerAgenda_allocate h.2
    · exact h.2) h
  onTakeReclass g h := slotsStand_flow (takeReclass_flowOnly _ _) (by
    simp only [takeReclass]
    repeat' split
    · exact h.2
    · exact h.2
    · exact innerAgenda_allocate h.2) h
  onLink _ _ h := h

/-! ### The records that the image builds (R2, R23) -/

theorem restoredSlot_built {k : Kept} {p : Image} {id : CleatId} {r : CleatRec} (h : restoredSlot k (builtSlot p id) = some r) :
    r.Untouched ∧ r.manual = p.isManual id ∧ r.history = [] ∧
      r.verdict = if r.manual && !p.hasSensor id then .noSensor else .unverified := by
  have hbuilt : ∀ b, builtSlot p id = some b → b.Untouched ∧ b.manual = p.isManual id ∧ b.history = [] ∧
      b.verdict = if b.manual && !p.hasSensor id then .noSensor else .unverified := fun b hb => by
    rw [builtSlot_eq, rebuilt] at hb
    split at hb
    · obtain rfl := Option.some.inj hb
      exact ⟨⟨rfl, rfl, rfl⟩, rfl, rfl, rfl⟩
    · cases hb
  simp only [restoredSlot] at h
  split at h
  · split at h
    · rename_i b sv hb _
      obtain rfl := Option.some.inj h
      exact hbuilt b hb
    · cases h
  · exact hbuilt r h

theorem restoredSlot_disagrees {k : Kept} {b : Option CleatRec} (h : k.agrees b = false) : restoredSlot k b = b := by
  simp [restoredSlot, h]

/-- The kept fields of a record as built. -/
def keptBuilt (p : Image) (id : CleatId) : Kept := ⟨if p.fitted id then some .inService else none, none, none, 0⟩

theorem keptOf_builtSlot (p : Image) (id : CleatId) : keptOf (builtSlot p id) = keptBuilt p id := by
  rw [builtSlot_eq, rebuilt, keptBuilt]
  split <;> rfl

theorem agrees_iff {k : Kept} {p : Image} {id : CleatId} : k.agrees (builtSlot p id) = true ↔ k.service.isSome = p.fitted id ∧
    (k.service = some .handSet → p.isManual id = false) ∧
    (k.confirmation ≠ none → k.service = some .handSet ∨ (k.service = some .inService ∧ p.isManual id = true)) := by
  obtain ⟨sv, confirmation, _, _⟩ := k
  rw [builtSlot_eq, rebuilt]
  cases p.fitted id <;> rcases sv with _ | ⟨_ | _ | _⟩ <;> cases confirmation <;> cases p.isManual id <;> simp [Kept.agrees]

theorem keptOf_restoredSlot {k : Kept} {p : Image} {id : CleatId} (hf : p.fitted id = true) (ha : k.agrees (builtSlot p id) = true) :
    keptOf (restoredSlot k (builtSlot p id)) = k := by
  obtain ⟨hsome, -⟩ := agrees_iff.mp ha
  obtain ⟨sv, hsv⟩ := Option.isSome_iff_exists.mp (hsome.trans hf)
  obtain ⟨b, hb⟩ : ∃ b, builtSlot p id = some b := by
    rw [builtSlot_eq, rebuilt, if_pos hf]
    exact ⟨_, rfl⟩
  cases k
  simp_all [restoredSlot, keptOf]

theorem buildTable_slot (s : State) (id : CleatId) :
    (buildTable s).slot id = restoredSlot (s.retention.cleats.get id) (builtSlot s.store.copy id) := by
  obtain ⟨r, hbuild⟩ := buildTable_eq s
  rw [hbuild, State.slot, Tbl.get_build]

/-- A write of the record waits or is under way. -/
def WaitsWrite (s : State) (id : CleatId) : Prop :=
  s.retention.underWay = some (.cleat id (keptOf (s.slot id))) ∨ RetItem.cleat id ∈ s.retention.waiting

theorem waitsWrite_retain (s : State) (id : CleatId) : WaitsWrite (retain s (.cleat id)) id := by
  have hslot : (retain s (.cleat id)).slot id = s.slot id := by rw [retain_eq]; rfl
  rw [WaitsWrite, hslot]
  simp only [retain]
  split
  · exact .inl rfl
  · split
    · rename_i h
      exact .inr (List.contains_iff_mem.mp h)
    · exact .inr (by simp)

theorem waitsWrite_retain_kept {id : CleatId} (i : RetItem) (h : WaitsWrite s id) : WaitsWrite (retain s i) id := by
  have hslot : (retain s i).slot id = s.slot id := by rw [retain_eq]; rfl
  rw [WaitsWrite, hslot]
  simp only [retain]
  rcases h with h | h
  · left
    split
    · rename_i hnone
      rw [h] at hnone
      cases hnone
    · split <;> exact h
  · right
    split
    · exact h
    · split
      · exact h
      · exact List.mem_append_left _ h

/-- A record whose kept fields do not agree waits for its write (R23). -/
theorem waitsWrite_buildTable (s : State) {id : CleatId} (hd : (s.retention.cleats.get id).agrees (builtSlot s.store.copy id) = false) :
    WaitsWrite (buildTable s) id := by
  have hkept : ∀ (ids : List CleatId) (u : State), WaitsWrite u id → WaitsWrite (ids.foldl (fun s id => retain s (.cleat id)) u) id := by
    intro ids
    induction ids with
    | nil => exact fun _ h => h
    | cons j ids ih => exact fun u h => ih _ (waitsWrite_retain_kept _ h)
  have hfold : ∀ (ids : List CleatId) (u : State), id ∈ ids → WaitsWrite (ids.foldl (fun s id => retain s (.cleat id)) u) id := by
    intro ids
    induction ids with
    | nil => exact fun _ h => absurd h List.not_mem_nil
    | cons j ids ih =>
      intro u h
      rcases List.mem_cons.mp h with rfl | h
      · exact hkept ids _ (waitsWrite_retain u _)
      · exact ih _ h
  exact hfold _ _ (List.mem_filter.mpr ⟨List.mem_finRange id, by simp [hd]⟩)

/-! ### The derivation of the UNKNOWN hatches (R50, R51) -/

theorem derivedState_congr (hp : t.params = s.params) (hj : t.junctions = s.junctions) (h : Hatch) : derivedState t h = derivedState s h := by
  have hpanel : ∀ p, t.panel h p = s.panel h p := fun p => by rw [State.panel, State.panel, hj]
  have hclosed : ∀ p, inClosedBand t h p = inClosedBand s h p := fun p => by rw [inClosedBand, inClosedBand, hpanel, hp]
  have hstowed : ∀ p, isStowed t h p = isStowed s h p := fun p => by rw [isStowed, isStowed, hpanel, hp]
  have hbeyond : ∀ p, beyondStow t h p = beyondStow s h p := fun p => by rw [beyondStow, beyondStow, hpanel, hp]
  have hjacks : bothJacks t h .lowered = bothJacks s h .lowered := by rw [bothJacks, bothJacks, hj]
  have hbothClosed : bothClosed t h = bothClosed s h := by rw [bothClosed, bothClosed, hclosed, hclosed]
  have hbothStowed : bothStowed t h = bothStowed s h := by rw [bothStowed, bothStowed, hstowed, hstowed]
  have hanyBeyond : anyBeyondStow t h = anyBeyondStow s h := by rw [anyBeyondStow, anyBeyondStow, hbeyond, hbeyond]
  rw [derivedState, derivedState, hbothClosed, hbothStowed, hanyBeyond, hjacks]

/-- The hatch is UNKNOWN and its sensing is complete, with the image VALID (R51). -/
def derives (s : State) (h : Hatch) : Bool := (s.ctx h).state = .unknown && s.imageValid && (s.junctions.get h).derivable

/-- Unmarked hatches are derived one by one; each hands on a squall start that no mark calls for. -/
theorem foldr_deriveIfReady (hm : ∀ h, (s.ctx h).mark = false) (hs : List Hatch) (hnodup : hs.Nodup) :
    ∃ (x : Tbl 9 HatchCtx) (v : Tbl 9 SecVerdict) (r : Tbl 9 (Option Reason)) (gs : List Hatch), hs.foldr (fun h s => deriveIfReady s h) s =
        State.push { s with
          hatches := x
          table := { s.table with verdict := v, reason := r } } (gs.map .squallTry) ∧
      gs.length ≤ hs.length ∧ ∀ g, x.get g = if g ∈ hs ∧ derives s g = true then derivedCtx s g .restart else s.ctx g := by
  induction hs with
  | nil => exact ⟨_, _, _, [], rfl, le_rfl, fun g => by simp [State.ctx]⟩
  | cons h hs ih =>
    obtain ⟨hnot, hnodup⟩ := List.nodup_cons.mp hnodup
    obtain ⟨x, v, r, gs, heq, hlen, hx⟩ := ih hnodup
    obtain ⟨u, hu⟩ : ∃ u : State, u = State.push { s with
        hatches := x
        table := { s.table with verdict := v, reason := r } } (gs.map .squallTry) := ⟨_, rfl⟩
    have hctx : u.ctx h = s.ctx h := by
      rw [hu, State.push_ctx]
      exact (hx h).trans (if_neg fun hc => hnot hc.1)
    have hderives : derives u h = derives s h := by rw [derives, derives, hctx, hu]; rfl
    have hrest : ∀ g, g ≠ h → x.get g = if g ∈ h :: hs ∧ derives s g = true then derivedCtx s g .restart else s.ctx g := fun g hg => by
      rw [hx]
      simp [hg]
    rw [List.foldr_cons, heq, ← hu]
    by_cases hd : derives s h = true
    · have hderived : derivedCtx u h .restart = derivedCtx s h .restart := by
        rw [derivedCtx, derivedCtx, hctx, derivedState_congr (s := s) (t := u) (by rw [hu]; rfl) (by rw [hu]; rfl)]
      have hstep : deriveIfReady u h = (judged (u.setCtx h (derivedCtx s h .restart)) h).push [.squallTry h] := by
        rw [deriveIfReady, if_pos (by exact hderives.trans hd), derive_unmarked _ (by rw [hctx]; exact hm h), hderived]
      refine ⟨x.set h (derivedCtx s h .restart), _, _, h :: gs, by rw [hstep, hu]; rfl, Nat.succ_le_succ hlen, fun g => ?_⟩
      by_cases hg : g = h
      · rw [hg, Tbl.get_set_self, if_pos ⟨List.mem_cons_self, hd⟩]
      · rw [Tbl.get_set_ne _ _ (Ne.symm hg), hrest g hg]
    · have hstep : deriveIfReady u h = u := by
        rw [deriveIfReady, if_neg (by rw [← hderives] at hd; exact hd)]
      refine ⟨x, v, r, gs, by rw [hstep, hu], Nat.le_succ_of_le hlen, fun g => ?_⟩
      by_cases hg : g = h
      · rw [hg, if_neg fun hc => hd hc.2, hx, if_neg fun hc => hnot hc.1]
      · exact hrest g hg

theorem idleChanged_noEntry (old : Nat) (hn : NoEntry s) : OnlyFlowChanges s (idleChanged old s) := by
  obtain ⟨honly, -⟩ := idleExpires_noEntry hn
  simp only [idleChanged]
  repeat' split
  · rfl
  · exact honly
  · rfl

theorem imageTaken_noEntry (hn : NoEntry s) :
    OnlyFlowChanges (buildTable { s with store := { s.store with image := .valid } }) (imageTaken s) := by
  obtain ⟨b, hb⟩ : ∃ b, b = buildTable { s with store := { s.store with image := .valid } } := ⟨_, rfl⟩
  have hnb : NoEntry (setRatings b) := by
    obtain ⟨r, heq⟩ := buildTable_eq { s with store := { s.store with image := .valid } }
    rw [hb, heq]
    exact hn
  have hflow : FlowTaken (setRatings b) (ratingsTaken b (setRatings b)) := ratingsTaken_noEntry b hnb
  obtain ⟨v, a, hv⟩ := onlyFlowChanges_iff.mp hflow.only
  obtain ⟨w, c, hw⟩ := onlyFlowChanges_iff.mp (idleChanged_noEntry Image.default.idleTime hflow.noEntry)
  rw [imageTaken, ← hb, takeRatings_eq, hw, hv]
  exact onlyFlowChanges_iff.mpr ⟨w, c, rfl⟩

/-- With no entry and no mark, the image that becomes VALID derives the UNKNOWN hatches that can be derived, and no other changes. -/
theorem settle_imageBecomesValid_ctx (ha : s.agenda = []) (hn : NoEntry s) (hm : ∀ h, (s.ctx h).mark = false)
    (ht : t = settle (imageBecomesValid s)) (h : Hatch) :
    t.ctx h = if (s.ctx h).state = .unknown ∧ (s.junctions.get h).derivable = true then
        { s.ctx h with
          state := derivedState t h
          held := if derivedState t h = .held then some .restart else none
          next := none
          faults := 0
          lastFault := none }
      else s.ctx h := by
  obtain ⟨y, hy⟩ : ∃ y, y = imageTaken s := ⟨_, rfl⟩
  obtain ⟨r, hbuild⟩ := buildTable_eq { s with store := { s.store with image := .valid } }
  obtain ⟨v, a, hflow⟩ := onlyFlowChanges_iff.mp (imageTaken_noEntry hn)
  rw [hbuild, ← hy] at hflow
  have hctx : ∀ g, y.ctx g = s.ctx g := fun g => by rw [hflow]; rfl
  have hjunctions : y.junctions = s.junctions := by rw [hflow]
  obtain ⟨x, v, r, gs, hfold, hlen, hx⟩ := foldr_deriveIfReady (s := y) (fun g => by rw [hctx]; exact hm g) allHatches nodup_allHatches
  have hmarks : ∀ g, (x.get g).mark = false := fun g => by
    rw [hx]
    split
    · exact (congrArg HatchCtx.mark (hctx g)).trans (hm g)
    · rw [hctx]
      exact hm g
  obtain ⟨v', r', hjudged⟩ := rejudgeAll_unmarked (s := allHatches.foldr (fun h s => deriveIfReady s h) y) fun g => by
    rw [hfold]
    exact hmarks g
  obtain ⟨w, hw⟩ : ∃ w : State, w = { y with
      hatches := x
      table := { y.table with verdict := v', reason := r' } } := ⟨_, rfl⟩
  have hvalid : imageBecomesValid s = w.push (gs.map .squallTry) := by rw [imageBecomesValid_eq, ← hy, hjudged, hfold, hw]; rfl
  have hinert := Takes.inert (s := w) (gs.map .squallTry) fun t ht us => by
    obtain ⟨g, -, rfl⟩ := List.mem_map.mp ht
    exact squallTry_unmarked (by rw [hw]; exact hmarks g)
  have hsettled : t = w := by
    rw [ht, hvalid]
    refine hinert.settled ?_ (by rw [hw, hflow]; exact ha)
    have : allHatches.length = 9 := by decide
    rw [List.length_map]
    omega
  have hderived : derivedState t h = derivedState y h :=
    derivedState_congr (by rw [hsettled, hw]; rfl) (by rw [hsettled, hw]) h
  have hready : (h ∈ allHatches ∧ derives y h = true) ↔ (s.ctx h).state = .unknown ∧ (s.junctions.get h).derivable = true := by
    have hy' : y.imageValid = true := by rw [hflow]; rfl
    simp [mem_allHatches, derives, hctx, hjunctions, hy']
  rw [hderived, hsettled, hw]
  refine (hx h).trans ?_
  rw [derivedCtx, hctx]
  simp only [hready]

/-- The records that the image builds stand through all that is handed on. -/
theorem settle_imageBecomesValid_slot (ha : s.agenda = []) (id : CleatId) : (settle (imageBecomesValid s)).slot id =
    restoredSlot (s.retention.cleats.get id) (builtSlot s.store.copy id) := by
  obtain ⟨x, hx⟩ : ∃ x : CleatId → Option CleatRec, x = fun id => restoredSlot (s.retention.cleats.get id) (builtSlot s.store.copy id) :=
    ⟨_, rfl⟩
  have k := slotsStand_innerKeep (x := x) fun j r hr => (restoredSlot_built (by rw [hx] at hr; exact hr)).1
  obtain ⟨r, hbuild⟩ := buildTable_eq { s with store := { s.store with image := .valid } }
  have hbuilt : SlotsStand x (buildTable { s with store := { s.store with image := .valid } }) := by
    rw [hbuild, hx]
    exact ⟨fun j => Tbl.get_build _ _, by rw [InnerAgenda, ha]; rfl⟩
  have htaken : SlotsStand x (imageTaken s) := slotsStand_flow (imageTaken_spec s).1
    (innerAgenda_idleChanged _ (by rw [takeRatings_eq]; exact innerAgenda_ratingsTaken _ hbuilt.2)) hbuilt
  have hfold : ∀ (f : Hatch → State → State), (∀ h u, SlotsStand x u → SlotsStand x (f h u)) → ∀ (hs : List Hatch) (u : State),
      SlotsStand x u → SlotsStand x (hs.foldr f u) := by
    intro f hf hs u hu
    induction hs with
    | nil => exact hu
    | cons h hs ih => exact hf h _ ih
  have hvalid : SlotsStand x (imageBecomesValid s) :=
    hfold _ (fun h u hu => k.onRejudge' (S := ∅) h hu) _ _ (hfold _ (fun h u hu => k.onDeriveIfReady (S := ∅) h hu) _ _ htaken)
  have hsettled : SlotsStand x (settle (imageBecomesValid s)) := k.onInnerSettle (S := ∅) (fun {u t ts} hat hu => by
    have hall := hu.2
    rw [InnerAgenda, hat, List.all_cons, Bool.and_eq_true] at hall
    exact ⟨hall.1, hu.1, hall.2⟩) hvalid
  rw [hsettled.1 id, hx]

theorem imageTaken_others (h : t.outer = (imageTaken s).outer) :
    t.holds = s.holds ∧ t.stops = s.stops ∧ t.junctions = s.junctions ∧ t.link.rx = s.link.rx := by
  obtain ⟨hflow, -⟩ := imageTaken_spec s
  obtain ⟨r, hbuild⟩ := buildTable_eq { s with store := { s.store with image := .valid } }
  exact ⟨(holds_of_outer h).trans (hflow.holds.trans (by rw [hbuild])), (stops_of_outer h).trans (hflow.stops.trans (by rw [hbuild])),
    (junctions_of_outer h).trans (hflow.junctions.trans (by rw [hbuild])),
    (rx_of_outer h).trans ((congrArg Link.rx hflow.link).trans (by rw [hbuild]))⟩

/-- A record whose kept fields do not agree waits for its write at the end of the event. -/
theorem settle_imageBecomesValid_waits (ha : s.agenda = []) {id : CleatId}
    (hd : (s.retention.cleats.get id).agrees (builtSlot s.store.copy id) = false) : WaitsWrite (settle (imageBecomesValid s)) id := by
  obtain ⟨hflow, -⟩ := imageTaken_spec s
  have hwaits := waitsWrite_buildTable { s with store := { s.store with image := .valid } } hd
  have hslot : (settle (imageBecomesValid s)).slot id = (buildTable { s with store := { s.store with image := .valid } }).slot id := by
    rw [settle_imageBecomesValid_slot ha, buildTable_slot]
  have hretention := (retention_of_outer ((settle_outer _).trans (imageBecomesValid_outer s))).trans hflow.retention
  rw [WaitsWrite, hslot, hretention]
  exact hwaits

end

end Sys2Proof.Machine

namespace Sys2Proof.Params
open Sys2Proof Sys2Proof.Machine Sys2Proof.Safety

/-- Settles O6: the records stand as built, and the hatches are derived from what their sensing shows. -/
theorem imageReadBuildsRecords : Obligations.ImageReadBuildsRecords := by
  intro image s ⟨hr, ha⟩ hreading hsafe hrange hsound kept agrees
  obtain ⟨u, hu⟩ : ∃ u : State, u = { s with store := { s.store with copy := image } } := ⟨_, rfl⟩
  have hagenda : u.agenda = [] := by rw [hu]; exact ha
  have hcopy : u.store.copy = image := by rw [hu]
  have hcleats : u.retention = s.retention := by rw [hu]
  obtain ⟨t, ht⟩ : ∃ t, t = settle (imageBecomesValid u) := ⟨_, rfl⟩
  have hexec : exec (.imageReadEnd image true) s = .next t := by
    rw [show exec (.imageReadEnd image true) s = execImageReadEnd image true s from rfl, execImageReadEnd, event_running hr, if_pos hreading,
      if_pos (by simp [hsafe, hrange, hsound]), ht, hu]
  have houter : t.outer = (imageTaken u).outer := by rw [ht, settle_outer, imageBecomesValid_outer]
  obtain ⟨hstore, hrated, hslots⟩ := imageTaken_facts houter
  rw [hcopy] at hrated hslots
  have hslot : ∀ id, t.slot id = restoredSlot (kept id) (builtSlot image id) := fun id => by
    rw [ht, settle_imageBecomesValid_slot hagenda, hcleats, hcopy]
  have hagrees : ∀ id, agrees id ↔ (kept id).agrees (builtSlot image id) = true := fun id => agrees_iff.symm
  obtain ⟨hholds, hstops, hjunctions, hrx⟩ := imageTaken_others houter
  refine ⟨t, hexec, by rw [imageValid_iff, hstore], by rw [hstore]; exact hcopy, hrated, hslots, fun id r hid => ?records, fun id hf hok => ?agreeing,
    fun id hnot => ?differing, by rw [hholds, hu], by rw [hstops, hu], by rw [hjunctions, hu], by rw [hrx, hu], fun hn hm h => ?hatch⟩
  case records =>
    rw [hslot] at hid
    obtain ⟨⟨htries, hwanted, hlost⟩, hmanual, hhistory, hverdict⟩ := restoredSlot_built hid
    exact ⟨hmanual, hhistory, hverdict, htries, hwanted, hlost⟩
  case agreeing => rw [hslot, keptOf_restoredSlot hf ((hagrees id).mp hok)]
  case differing =>
    intro built
    have hno : (kept id).agrees (builtSlot image id) = false := Bool.eq_false_iff.mpr fun h => hnot ((hagrees id).mpr h)
    have hkept : keptOf (t.slot id) = built := by
      rw [hslot, restoredSlot_disagrees hno, keptOf_builtSlot]
      rfl
    have hwaits := settle_imageBecomesValid_waits (s := u) hagenda (id := id) (by rw [hcleats, hcopy]; exact hno)
    rw [← ht, WaitsWrite, hkept] at hwaits
    exact ⟨hkept, hwaits⟩
  case hatch =>
    intro j derivable st
    have hctx := settle_imageBecomesValid_ctx (s := u) hagenda (by rw [hu]; exact hn) (by rw [hu]; exact hm) ht h
    have hready : derivable = true ↔ (u.ctx h).state = .unknown ∧ (u.junctions.get h).derivable = true := by
      have hjack : ∀ p : PanelSense, (p.jack != .unverified) = decide (p.jack ≠ .unverified) := fun p => by cases p.jack <;> rfl
      rw [hu]
      simp only [derivable, Junction.derivable, hjack, Bool.and_eq_true, decide_eq_true_eq, and_assoc]
      rfl
    rw [hctx]
    by_cases hd : derivable = true
    · rw [if_pos hd, if_pos (hready.mp hd), hu]
      rfl
    · rw [if_neg hd, if_neg fun h => hd (hready.mpr h), hu]
      rfl

end Sys2Proof.Params
end
